-- ==== Sys2Proof/Word.lean ====
section
/-! DEFINITION. The widths of the block's values (00_scope R7, R8; 30_encoding R90 to R100). -/

namespace Sys2Proof

/-- One command, 64 bits (30_encoding R100). -/
abbrev Word := BitVec 64

/-- One byte of the data memory, and the attribute byte (20_memory R60; 30_encoding R91). -/
abbrev Byte := BitVec 8

/-- A segment selector, INDEX ++ TI ++ RPL (30_encoding R90). -/
abbrev Selector := BitVec 16

/-- A gate entry as its 64-bit little-endian image (30_encoding R94). -/
abbrev GateEntry := BitVec 64

/-- A handler address, or the table base: ADDR_BITS = 32 (00_scope R7). -/
abbrev Addr := BitVec 32

/-- A mutex payload: PAYLOAD_BITS = 32 (00_scope R7). Also the width of RES[c] (10_state R26). -/
abbrev Payload := BitVec 32

/-- The 6-byte descriptor table pointer (30_encoding R98). -/
abbrev Pointer := BitVec 48

end Sys2Proof
end

