-- ==== Sys2Proof/Config.lean ====
section
/-! DEFINITION. The launch parameters of a run (00_scope R7) and the one free value of the model. The parameters are plain
data and stand in State.params, so that a claim about every state is a claim about every configuration (log 1). -/

namespace Sys2Proof

/-- How contexts share the one hardware thread (00_scope R7, 70_reset R283). -/
inductive Sched where
  | nested
  | interleaved
  deriving DecidableEq, Repr

/-- The source of an interrupt request (60_exceptions R255). DEDUCED (log 15): the level of a SOFTWARE request is one of the
four privilege levels of R261. -/
inductive Source where
  | external
  | exception
  | software (cpl : BitVec 2)
  deriving DecidableEq, Repr

/-- An interrupt request (v, src) (60_exceptions R255). -/
structure Request where
  vector : Nat
  source : Source
  deriving DecidableEq, Repr

/-- REQ, "any set" of requests (00_scope R7): every request the vector width admits, or a listed set. -/
inductive ReqSet where
  | all
  | only (rs : List Request)
  deriving DecidableEq, Repr

/-- The parameters of one context: its privilege level and its command list (00_scope R7: CTX_CPL[c], PROG[c]). -/
structure CtxParams where
  cpl : BitVec 2
  prog : List Word
  deriving DecidableEq, Repr

/-- The launch parameters (00_scope R7). MODE, ADDR_BITS and PAYLOAD_BITS are fixed at 32 by the types. N_CTX is the length of
`contexts`, and N_MUTEX the length of `mutexInit`. DESIGN CHOICE (log 23): the vectors of VEC_CTX and DEFERRED_FAULT_VEC are any
numbers. -/
structure Params where
  nVectors : Nat
  tbase : Addr
  handlerSel : Selector
  sched : Sched
  contexts : List CtxParams
  mutexInit : List Payload
  vecBits : Nat
  req : ReqSet
  vecCtx : List (Nat × Nat)
  deferredFaultVec : Nat
  deriving DecidableEq, Repr

/-- N_CTX. -/
def Params.nCtx (p : Params) : Nat := p.contexts.length

/-- N_MUTEX. -/
def Params.nMutex (p : Params) : Nat := p.mutexInit.length

/-- PROG[c] (00_scope R7). -/
def Params.prog (p : Params) (c : Nat) : List Word :=
  match p.contexts[c]? with
  | some x => x.prog
  | none => []

/-- CTX_CPL[c] (10_state R21, 60_exceptions R261). -/
def Params.cpl (p : Params) (c : Nat) : BitVec 2 :=
  match p.contexts[c]? with
  | some x => x.cpl
  | none => 0

/-- The size of TR in bytes, 8*N_VECTORS (10_state R28). -/
def Params.tableBytes (p : Params) : Nat := 8 * p.nVectors

/-- VEC_CTX, a partial map from vectors to handler contexts (00_scope R7). -/
def Params.handlerOf (p : Params) (v : Nat) : Option Nat := p.vecCtx.lookup v

/-- The configuration State.reset is launched with. DESIGN CHOICE (log 1): N_VECTORS, TBASE, HANDLER_SEL, N_MUTEX, MUTEX_INIT,
CTX_CPL and SCHED are those 95_test_vectors.md names for every vector that does not say otherwise. DESIGN CHOICE (log 2):
N_CTX = 1, VEC_BITS = 8, every request, no VEC_CTX, DEFERRED_FAULT_VEC = 13. DESIGN CHOICE (log 3): PROG[0] is empty. -/
def Params.default : Params where
  nVectors := 256
  tbase := 0x00102000
  handlerSel := 0x0008
  sched := .interleaved
  contexts := [⟨0, []⟩]
  mutexInit := [0]
  vecBits := 8
  req := .all
  vecCtx := []
  deferredFaultVec := 13

/-- THE FREE VALUE of the model: the choice among the possible steps that the schedule makes at its n-th step (70_reset R283:
"The choice among the possible steps is not determined"). It has no body that a proof could use: nothing is known of its
values (log 4). -/
opaque Config.freeChoice : Nat → Nat

end Sys2Proof
end

