-- ==== Sys2Proof/Syntax.lean ====
section
/-! DEFINITION. The 27 commands (30_encoding R104), one constructor per row of the opcode table. Every immediate has the width
of the field it writes (R103). -/

namespace Sys2Proof

/-- The attribute target t (30_encoding R102, 41_attribute R150): GE[c], or the table entry named by HANDLE[c]. -/
inductive Target where
  | ge
  | tbl
  deriving DecidableEq, Repr

/-- The five valid gate kinds (30_encoding R92), under their assembler names. -/
inductive GateKind where
  | task32
  | int16
  | trap16
  | int32
  | trap32
  deriving DecidableEq, Repr

/-- A command (30_encoding R104). -/
inductive Instr where
  | selNew
  | selSetRpl (rpl : BitVec 2)
  | selSetTi (ti : BitVec 1)
  | selSetIndex (index : BitVec 13)
  | selGetRpl
  | selGetTi
  | selGetIndex
  | attrSetPresent (t : Target) (p : BitVec 1)
  | attrSetGateKind (t : Target) (kind : GateKind)
  | attrSetDpl (t : Target) (dpl : BitVec 2)
  | attrGetPresent (t : Target)
  | attrGetGateKind (t : Target)
  | attrGetDpl (t : Target)
  | gateNew (addr : Addr)
  | gateMissing
  | gateGetOffset
  | gateGetSel
  | gateGetAttr
  | idtNew
  | idtSetHandler (v : BitVec 16) (addr : Addr)
  | idtLoad
  | mutexNew (m : BitVec 8) (d : Payload)
  | mutexLock (m : BitVec 8)
  | mutexUnlock (m : BitVec 8)
  | mutexRead (m : BitVec 8)
  | mutexWrite (m : BitVec 8) (d : Payload)
  | mutexWriteadd (m : BitVec 8) (d : Payload)
  deriving DecidableEq, Repr

/-- The mutex a command names, if it names one (formats M and MD, 30_encoding R102). -/
def Instr.mutex? : Instr → Option (BitVec 8)
  | .mutexNew m _ => some m
  | .mutexLock m => some m
  | .mutexUnlock m => some m
  | .mutexRead m => some m
  | .mutexWrite m _ => some m
  | .mutexWriteadd m _ => some m
  | .selNew => none
  | .selSetRpl _ => none
  | .selSetTi _ => none
  | .selSetIndex _ => none
  | .selGetRpl => none
  | .selGetTi => none
  | .selGetIndex => none
  | .attrSetPresent _ _ => none
  | .attrSetGateKind _ _ => none
  | .attrSetDpl _ _ => none
  | .attrGetPresent _ => none
  | .attrGetGateKind _ => none
  | .attrGetDpl _ => none
  | .gateNew _ => none
  | .gateMissing => none
  | .gateGetOffset => none
  | .gateGetSel => none
  | .gateGetAttr => none
  | .idtNew => none
  | .idtSetHandler _ _ => none
  | .idtLoad => none

end Sys2Proof
end

