-- ==== Sys2Proof/WellFormed.lean ====
section
/-! DEFINITION. Well-formed commands (the operand a type cannot bound: m < N_MUTEX, 30_encoding R105(c)) and well-formed
configurations (the constraints of 00_scope R7). -/

namespace Sys2Proof

/-- A command the decoder can give under a configuration with nMutex mutexes (30_encoding R105(c)). Every other operand is
bounded by its type (R103; the kinds of R92 by `GateKind`). -/
def Instr.wf (nMutex : Nat) (i : Instr) : Bool :=
  match i.mutex? with
  | some m => decide (m.toNat < nMutex)
  | none => true

/-- 1 <= N_VECTORS <= 8192 (00_scope R7). -/
def Params.vectorsOk (p : Params) : Bool := decide (1 ≤ p.nVectors) && decide (p.nVectors ≤ 8192)

/-- TBASE + 8*N_VECTORS <= 2^32 (00_scope R7, 20_memory R64). -/
def Params.tableOk (p : Params) : Bool := decide (p.tbase.toNat + p.tableBytes ≤ 2 ^ 32)

/-- 1 <= N_CTX <= 256 (00_scope R7). -/
def Params.contextsOk (p : Params) : Bool := decide (1 ≤ p.nCtx) && decide (p.nCtx ≤ 256)

/-- 1 <= N_MUTEX <= 256 (00_scope R7). -/
def Params.mutexesOk (p : Params) : Bool := decide (1 ≤ p.nMutex) && decide (p.nMutex ≤ 256)

/-- VEC_CTX is a partial map into the context ids 1..N_CTX-1 (00_scope R7). DESIGN CHOICE (log 23): any number may be a key of it;
one that no request can have starts nothing. DESIGN CHOICE (log 25): R7 gives VEC_CTX for NESTED only; under INTERLEAVED its ids
are tested all the same, and a good one is accepted and ignored. -/
def Params.vecCtxOk (p : Params) : Bool :=
  decide (p.vecCtx.map Prod.fst).Nodup && p.vecCtx.all fun x => decide (1 ≤ x.2) && decide (x.2 < p.nCtx)

/-- DEDUCED (log 14): a delivered vector fits the 32-bit info of a fault record (10_state R34, 60_exceptions R250). -/
def Params.vecBitsOk (p : Params) : Bool := decide (p.vecBits ≤ 32)

/-- The constraints of 00_scope R7: "a configuration that breaks one is refused". DESIGN CHOICE (log 23): "any vector" bounds
neither DEFERRED_FAULT_VEC nor the keys of VEC_CTX, and a listed request too wide for VEC_BITS is not refused. DESIGN CHOICE
(log 25): a VEC_CTX under INTERLEAVED is tested and accepted. -/
def Params.wf (p : Params) : Bool :=
  p.vectorsOk && p.tableOk && p.contextsOk && p.mutexesOk && p.vecCtxOk && p.vecBitsOk

end Sys2Proof
end

