-- ==== Sys2Proof/Decode.lean ====
section
/-! DEFINITION. The opcode map (30_encoding R104), the decoder (R106), total on every word, and the encoder, both written from
the same tables of the spec. -/

namespace Sys2Proof

/-- Why a word is illegal (30_encoding R105). -/
inductive Illegal where
  /-- (a) no row of the opcode map selects the word. -/
  | noRow
  /-- (b) ATTR_SET_GATE_KIND with a kind outside VALID_KINDS. -/
  | badKind
  /-- (c) a mutex number m >= N_MUTEX. -/
  | mutexRange
  deriving DecidableEq, Repr

/-- One row of the opcode map: `mask` has a 1 in every bit that is opcode or must be zero (30_encoding R104). -/
structure Row where
  mnemonic : String
  pat : Word
  mask : Word
  deriving DecidableEq, Repr

/-- "A word W selects the row if (W & mask) = match" (30_encoding R104). -/
def Row.selects (r : Row) (w : Word) : Bool := decide (w &&& r.mask = r.pat)

namespace Row

def selNew : Row := ⟨"SEL_NEW", 0x1000000000000000#64, 0xFFFFFFFFFFFFFFFF#64⟩
def selSetRpl : Row := ⟨"SEL_SET_RPL", 0x1100000000000000#64, 0xFFFFFFFFFFFFFFFC#64⟩
def selSetTi : Row := ⟨"SEL_SET_TI", 0x1200000000000000#64, 0xFFFFFFFFFFFFFFFE#64⟩
def selSetIndex : Row := ⟨"SEL_SET_INDEX", 0x1300000000000000#64, 0xFFFFFFFFFFFFE000#64⟩
def selGetRpl : Row := ⟨"SEL_GET_RPL", 0x1400000000000000#64, 0xFFFFFFFFFFFFFFFF#64⟩
def selGetTi : Row := ⟨"SEL_GET_TI", 0x1500000000000000#64, 0xFFFFFFFFFFFFFFFF#64⟩
def selGetIndex : Row := ⟨"SEL_GET_INDEX", 0x1600000000000000#64, 0xFFFFFFFFFFFFFFFF#64⟩
def attrSetPresent : Row := ⟨"ATTR_SET_PRESENT", 0x2000000000000000#64, 0xFFFEFFFFFFFFFFFE#64⟩
def attrSetGateKind : Row := ⟨"ATTR_SET_GATE_KIND", 0x2100000000000000#64, 0xFFFEFFFFFFFFFFF0#64⟩
def attrSetDpl : Row := ⟨"ATTR_SET_DPL", 0x2200000000000000#64, 0xFFFEFFFFFFFFFFFC#64⟩
def attrGetPresent : Row := ⟨"ATTR_GET_PRESENT", 0x2300000000000000#64, 0xFFFEFFFFFFFFFFFF#64⟩
def attrGetGateKind : Row := ⟨"ATTR_GET_GATE_KIND", 0x2400000000000000#64, 0xFFFEFFFFFFFFFFFF#64⟩
def attrGetDpl : Row := ⟨"ATTR_GET_DPL", 0x2500000000000000#64, 0xFFFEFFFFFFFFFFFF#64⟩
def gateNew : Row := ⟨"GATE_NEW", 0x3000000000000000#64, 0xFFFFFFFF00000000#64⟩
def gateMissing : Row := ⟨"GATE_MISSING", 0x3100000000000000#64, 0xFFFFFFFFFFFFFFFF#64⟩
def gateGetOffset : Row := ⟨"GATE_GET_OFFSET", 0x3200000000000000#64, 0xFFFFFFFFFFFFFFFF#64⟩
def gateGetSel : Row := ⟨"GATE_GET_SEL", 0x3300000000000000#64, 0xFFFFFFFFFFFFFFFF#64⟩
def gateGetAttr : Row := ⟨"GATE_GET_ATTR", 0x3400000000000000#64, 0xFFFFFFFFFFFFFFFF#64⟩
def idtNew : Row := ⟨"IDT_NEW", 0x4000000000000000#64, 0xFFFFFFFFFFFFFFFF#64⟩
def idtSetHandler : Row := ⟨"IDT_SET_HANDLER", 0x4100000000000000#64, 0xFFFF000000000000#64⟩
def idtLoad : Row := ⟨"IDT_LOAD", 0x4200000000000000#64, 0xFFFFFFFFFFFFFFFF#64⟩
def mutexNew : Row := ⟨"MUTEX_NEW", 0x5000000000000000#64, 0xFF00FFFF00000000#64⟩
def mutexLock : Row := ⟨"MUTEX_LOCK", 0x5100000000000000#64, 0xFF00FFFFFFFFFFFF#64⟩
def mutexUnlock : Row := ⟨"MUTEX_UNLOCK", 0x5200000000000000#64, 0xFF00FFFFFFFFFFFF#64⟩
def mutexRead : Row := ⟨"MUTEX_READ", 0x5300000000000000#64, 0xFF00FFFFFFFFFFFF#64⟩
def mutexWrite : Row := ⟨"MUTEX_WRITE", 0x5400000000000000#64, 0xFF00FFFF00000000#64⟩
def mutexWriteadd : Row := ⟨"MUTEX_WRITEADD", 0x5500000000000000#64, 0xFF00FFFF00000000#64⟩

end Row

/-- The opcode map (30_encoding R104), in the table's order. -/
def opcodeTable : List Row :=
  [Row.selNew, Row.selSetRpl, Row.selSetTi, Row.selSetIndex, Row.selGetRpl, Row.selGetTi, Row.selGetIndex] ++
  [Row.attrSetPresent, Row.attrSetGateKind, Row.attrSetDpl, Row.attrGetPresent, Row.attrGetGateKind, Row.attrGetDpl] ++
  [Row.gateNew, Row.gateMissing, Row.gateGetOffset, Row.gateGetSel, Row.gateGetAttr] ++
  [Row.idtNew, Row.idtSetHandler, Row.idtLoad] ++
  [Row.mutexNew, Row.mutexLock, Row.mutexUnlock, Row.mutexRead, Row.mutexWrite, Row.mutexWriteadd]

/-- The row of a command. -/
def Instr.row : Instr → Row
  | .selNew => Row.selNew
  | .selSetRpl _ => Row.selSetRpl
  | .selSetTi _ => Row.selSetTi
  | .selSetIndex _ => Row.selSetIndex
  | .selGetRpl => Row.selGetRpl
  | .selGetTi => Row.selGetTi
  | .selGetIndex => Row.selGetIndex
  | .attrSetPresent _ _ => Row.attrSetPresent
  | .attrSetGateKind _ _ => Row.attrSetGateKind
  | .attrSetDpl _ _ => Row.attrSetDpl
  | .attrGetPresent _ => Row.attrGetPresent
  | .attrGetGateKind _ => Row.attrGetGateKind
  | .attrGetDpl _ => Row.attrGetDpl
  | .gateNew _ => Row.gateNew
  | .gateMissing => Row.gateMissing
  | .gateGetOffset => Row.gateGetOffset
  | .gateGetSel => Row.gateGetSel
  | .gateGetAttr => Row.gateGetAttr
  | .idtNew => Row.idtNew
  | .idtSetHandler _ _ => Row.idtSetHandler
  | .idtLoad => Row.idtLoad
  | .mutexNew _ _ => Row.mutexNew
  | .mutexLock _ => Row.mutexLock
  | .mutexUnlock _ => Row.mutexUnlock
  | .mutexRead _ => Row.mutexRead
  | .mutexWrite _ _ => Row.mutexWrite
  | .mutexWriteadd _ _ => Row.mutexWriteadd

/-! ### Fields of the command word (30_encoding R101, R102) -/

/-- W[63:56] (30_encoding R101). -/
def opcodeField (w : Word) : Nat := (w.extractLsb' 56 8).toNat

/-- `imm = W[k-1:0]`, and with k = 32 the fields `addr` and `d` (30_encoding R102). -/
def immField (k : Nat) (w : Word) : BitVec k := w.extractLsb' 0 k

/-- `t = W[48]` (30_encoding R102). -/
def targetField (w : Word) : Target := if w.extractLsb' 48 1 = 1#1 then .tbl else .ge

/-- `v = W[47:32]` (30_encoding R102). -/
def vectorField (w : Word) : BitVec 16 := w.extractLsb' 32 16

/-- `m = W[55:48]` (30_encoding R102). -/
def mutexField (w : Word) : BitVec 8 := w.extractLsb' 48 8

/-- The KIND value of a gate kind (30_encoding R92). -/
def GateKind.bits : GateKind → BitVec 4
  | .task32 => 0x5
  | .int16 => 0x6
  | .trap16 => 0x7
  | .int32 => 0xE
  | .trap32 => 0xF

/-- VALID_KINDS (30_encoding R92): the gate kind of a 4-bit value, none for the eleven others. -/
def GateKind.ofBits? (k : BitVec 4) : Option GateKind :=
  if k = 0x5 then some .task32
  else if k = 0x6 then some .int16
  else if k = 0x7 then some .trap16
  else if k = 0xE then some .int32
  else if k = 0xF then some .trap32
  else none

/-- The bit t of an attribute target (30_encoding R102). -/
def Target.bit : Target → BitVec 1
  | .ge => 0
  | .tbl => 1

/-! ### Decode -/

/-- The command of a word that selects the row r, else `noRow` (30_encoding R104, R105(a)). -/
def ifSelects (r : Row) (w : Word) (k : Except Illegal Instr) : Except Illegal Instr :=
  if r.selects w then k else .error .noRow

/-- Refuses m >= N_MUTEX (30_encoding R105(c)). -/
def withMutexField (nMutex : Nat) (w : Word) (k : BitVec 8 → Instr) : Except Illegal Instr :=
  if (mutexField w).toNat < nMutex then .ok (k (mutexField w)) else .error .mutexRange

/-- Refuses a kind outside VALID_KINDS (30_encoding R105(b)). -/
def withKindField (w : Word) (k : GateKind → Instr) : Except Illegal Instr :=
  match GateKind.ofBits? (immField 4 w) with
  | some kind => .ok (k kind)
  | none => .error .badKind

/-- `decode` (30_encoding R106): total on every 64-bit word. The opcodes of R104 differ, so at most one row can select a word,
the one with its opcode. -/
def decode (nMutex : Nat) (w : Word) : Except Illegal Instr :=
  match opcodeField w with
  | 0x10 => ifSelects Row.selNew w (.ok .selNew)
  | 0x11 => ifSelects Row.selSetRpl w (.ok (.selSetRpl (immField 2 w)))
  | 0x12 => ifSelects Row.selSetTi w (.ok (.selSetTi (immField 1 w)))
  | 0x13 => ifSelects Row.selSetIndex w (.ok (.selSetIndex (immField 13 w)))
  | 0x14 => ifSelects Row.selGetRpl w (.ok .selGetRpl)
  | 0x15 => ifSelects Row.selGetTi w (.ok .selGetTi)
  | 0x16 => ifSelects Row.selGetIndex w (.ok .selGetIndex)
  | 0x20 => ifSelects Row.attrSetPresent w (.ok (.attrSetPresent (targetField w) (immField 1 w)))
  | 0x21 => ifSelects Row.attrSetGateKind w (withKindField w (.attrSetGateKind (targetField w)))
  | 0x22 => ifSelects Row.attrSetDpl w (.ok (.attrSetDpl (targetField w) (immField 2 w)))
  | 0x23 => ifSelects Row.attrGetPresent w (.ok (.attrGetPresent (targetField w)))
  | 0x24 => ifSelects Row.attrGetGateKind w (.ok (.attrGetGateKind (targetField w)))
  | 0x25 => ifSelects Row.attrGetDpl w (.ok (.attrGetDpl (targetField w)))
  | 0x30 => ifSelects Row.gateNew w (.ok (.gateNew (immField 32 w)))
  | 0x31 => ifSelects Row.gateMissing w (.ok .gateMissing)
  | 0x32 => ifSelects Row.gateGetOffset w (.ok .gateGetOffset)
  | 0x33 => ifSelects Row.gateGetSel w (.ok .gateGetSel)
  | 0x34 => ifSelects Row.gateGetAttr w (.ok .gateGetAttr)
  | 0x40 => ifSelects Row.idtNew w (.ok .idtNew)
  | 0x41 => ifSelects Row.idtSetHandler w (.ok (.idtSetHandler (vectorField w) (immField 32 w)))
  | 0x42 => ifSelects Row.idtLoad w (.ok .idtLoad)
  | 0x50 => ifSelects Row.mutexNew w (withMutexField nMutex w fun m => .mutexNew m (immField 32 w))
  | 0x51 => ifSelects Row.mutexLock w (withMutexField nMutex w .mutexLock)
  | 0x52 => ifSelects Row.mutexUnlock w (withMutexField nMutex w .mutexUnlock)
  | 0x53 => ifSelects Row.mutexRead w (withMutexField nMutex w .mutexRead)
  | 0x54 => ifSelects Row.mutexWrite w (withMutexField nMutex w fun m => .mutexWrite m (immField 32 w))
  | 0x55 => ifSelects Row.mutexWriteadd w (withMutexField nMutex w fun m => .mutexWriteadd m (immField 32 w))
  | _ => .error .noRow

/-! ### Encode -/

/-- `imm`, `addr` or `d` in its place. -/
def immBits {k : Nat} (x : BitVec k) : Word := x.setWidth 64

/-- `t << 48`. -/
def targetBits (t : Target) : Word := t.bit.setWidth 64 <<< 48

/-- `v << 32`. -/
def vectorBits (v : BitVec 16) : Word := v.setWidth 64 <<< 32

/-- `m << 48`. -/
def mutexBits (m : BitVec 8) : Word := m.setWidth 64 <<< 48

/-- The operand bits of a command, as its rule's "Encoding" line places them (40_selector R130 to 44_spinlock R226). -/
def Instr.operandBits : Instr → Word
  | .selNew => 0
  | .selSetRpl rpl => immBits rpl
  | .selSetTi ti => immBits ti
  | .selSetIndex index => immBits index
  | .selGetRpl => 0
  | .selGetTi => 0
  | .selGetIndex => 0
  | .attrSetPresent t p => targetBits t ||| immBits p
  | .attrSetGateKind t kind => targetBits t ||| immBits kind.bits
  | .attrSetDpl t dpl => targetBits t ||| immBits dpl
  | .attrGetPresent t => targetBits t
  | .attrGetGateKind t => targetBits t
  | .attrGetDpl t => targetBits t
  | .gateNew addr => immBits addr
  | .gateMissing => 0
  | .gateGetOffset => 0
  | .gateGetSel => 0
  | .gateGetAttr => 0
  | .idtNew => 0
  | .idtSetHandler v addr => vectorBits v ||| immBits addr
  | .idtLoad => 0
  | .mutexNew m d => mutexBits m ||| immBits d
  | .mutexLock m => mutexBits m
  | .mutexUnlock m => mutexBits m
  | .mutexRead m => mutexBits m
  | .mutexWrite m d => mutexBits m ||| immBits d
  | .mutexWriteadd m d => mutexBits m ||| immBits d

/-- The word of a command: its row's match value with the operands in their fields. -/
def encode (i : Instr) : Word := i.row.pat ||| i.operandBits

/-- The command the decoder reads from a word whose bits are w, numbered as spec/opcode_table.json numbers them. Every command is
one 64-bit word (30_encoding R100), so w's bit k is W[k]. DESIGN CHOICE (log 16): N_MUTEX is that of State.reset. -/
def decodeTableWord (nbits w : Nat) : Option Instr :=
  if w % 2 ^ nbits < 2 ^ 64 then
    match decode Params.default.nMutex (BitVec.ofNat 64 (w % 2 ^ nbits)) with
    | .ok i => some i
    | .error _ => none
  else none

end Sys2Proof
end

