-- ==== Sys2Proof/Machine/State.lean ====
section
/-! DEFINITION. The state of the block as plain data (10_state R20 to R42), the reasons a step can stop, and the state right
after reset (70_reset R280). `⊥` of the spec is `none`. -/

namespace Sys2Proof.Machine

/-- STATUS[c] (10_state R23). -/
inductive Status where
  | running
  | idle
  | done
  deriving DecidableEq, Repr

/-- The registers of one context (10_state R21): PC, STATUS, SEL, GE, RES and HANDLE. CTX_CPL[c] is a constant and stands in the
parameters. -/
structure Ctx where
  pc : Nat
  status : Status
  sel : Option Selector
  ge : Option GateEntry
  res : Option Payload
  handle : Option Nat
  deriving DecidableEq, Repr

/-- PHASE, the table's lifecycle state (10_state R29). -/
inductive Phase where
  | unbuilt
  | populated
  | loaded
  deriving DecidableEq, Repr

/-- The code of a phase (10_state R29). -/
def Phase.code : Phase → BitVec 2
  | .unbuilt => 0
  | .populated => 1
  | .loaded => 2

/-- The fields an IDT_LOAD writes into IDTR (10_state R30). -/
structure Idtr where
  limit : BitVec 16
  base : Addr
  deriving DecidableEq, Repr

/-- One spinlock mutex: FLAG[m], PAYLOAD[m] and HOLDER[m] (10_state R32). -/
structure Mutex where
  flag : Bool
  payload : Payload
  holder : Option Nat
  deriving DecidableEq, Repr

/-- The fault codes (60_exceptions R250). -/
inductive FaultCode where
  | illegal
  | privilege
  | uninit
  | tableLocked
  | vectorRange
  | noHandle
  | guardNotHeld
  | mutexBusy
  | dispatch
  deriving DecidableEq, Repr

/-- The subcodes of DISPATCH (60_exceptions R250, R256). -/
inductive DispatchSub where
  | notLoaded
  | limit
  | notPresent
  | badKind
  | dpl
  deriving DecidableEq, Repr

/-- Who raised a fault: a context, or DISP (10_state R34). -/
inductive Agent where
  | ctx (c : Nat)
  | disp
  deriving DecidableEq, Repr

/-- A fault record (10_state R34, 60_exceptions R251). `sub` is none outside DISPATCH; `pc` and `word` are ⊥ for the dispatch
agent. -/
structure FaultRecord where
  code : FaultCode
  sub : Option DispatchSub
  agent : Agent
  pc : Option Nat
  word : Option Word
  info : BitVec 32
  deriving DecidableEq, Repr

/-- The events of HIST (10_state R39). -/
inductive Event where
  /-- A table write with its address, its size in bytes and its little-endian value. -/
  | tableWrite (addr size value : Nat)
  /-- An IDT_LOAD with the pointer it formed. -/
  | load (p : Pointer)
  /-- A MUTEX_LOCK attempt with its outcome. -/
  | lockAttempt (c m : Nat) (acquired : Bool)
  /-- A release, by MUTEX_UNLOCK or at the end of the context. -/
  | release (c m : Nat)
  /-- A dispatch that delivered (60_exceptions R256). -/
  | deliver (v : Nat) (src : Source) (offset : Addr) (selector : Selector) (attr : Byte)
  /-- A dispatch that failed, with the subcode of its DISPATCH fault (R39, log 10). -/
  | dispatchFailed (v : Nat) (src : Source) (sub : DispatchSub)
  deriving DecidableEq, Repr

/-- One step of the machine (70_reset R283): (a) a command of a context, (b) a request with its dispatch, (c) a change of IE.
The environment has no other (60_exceptions R259, log 22). -/
inductive Move where
  | ctx (c : Nat)
  | request (r : Request)
  | setIE (b : Bool)
  deriving DecidableEq, Repr

/-- MEM as (address, byte) pairs: addresses strictly rising, no entry 0x00. An address not listed reads as 0x00, the reset
contents of TR (10_state R28; outside TR: log 13). -/
abbrev Memory := List Host.Cell

/-- The state of the block (10_state). -/
structure State where
  /-- The parameters of the run, constant (10_state R41). -/
  params : Params
  /-- The registers of context c at index c (R21). -/
  ctxs : List Ctx
  /-- MEM (R28). -/
  mem : Memory
  /-- PHASE (R29). -/
  phase : Phase
  /-- IDTR: none while IDTR.valid = 0, when limit and base hold ⊥ (R30, log 12). -/
  idtr : Option Idtr
  /-- The mutex m at index m (R32). -/
  mutexes : List Mutex
  /-- FAULT (R34). -/
  fault : Option FaultRecord
  /-- REFUSED (R35). -/
  refused : Bool
  /-- IE (R37). -/
  ie : Bool
  /-- ACTIVE, top last (R38). -/
  active : List Nat
  /-- HIST, in step order (R39). -/
  hist : List Event
  /-- MODEL'S OWN: the context whose command is executed, the rules' index c (log 5). -/
  cur : Nat
  /-- MODEL'S OWN: choices of the schedule already made, oldest first (log 4). -/
  plan : List Move
  /-- MODEL'S OWN: the number of steps taken, which numbers the free choices (log 4). -/
  tick : Nat
  deriving DecidableEq, Repr

/-- Why the machine stops. A fault of the SPEC is not one of these: raising it is a step that writes FAULT (60_exceptions R251),
and `faulted` is the answer of the machine from then on. -/
inductive Fault where
  /-- `step`, in a state whose FAULT is not none: no agent steps (60_exceptions R251; outcome FAULTED, 70_reset R284). Safe. -/
  | faulted (r : FaultRecord)
  /-- `step`, in a COMPLETED state: the run has stopped there (70_reset R284). Not an error. Safe (log 7). -/
  | completed
  /-- `step`, in a state that is not COMPLETED and where no step is possible, or where the chosen context has no command to
  fetch. No run reaches one. Safe (log 18). -/
  | stuck
  /-- The attribute commands and the dispatch lookup, on an access outside TR, which no rule makes (20_memory R61). No run
  reaches one. Safe (log 13). -/
  | outsideTable (addr : Nat)
  deriving DecidableEq, Repr

/-- What the model gives no meaning to. -/
inductive Refusal where
  /-- `exec`, on a command without a meaning yet. Safe. -/
  | notModelled (mnemonic : String)
  /-- `step`, in a state with REFUSED = 1: a handler context was started while active (60_exceptions R257; outcome REFUSED). Safe. -/
  | reentered
  /-- `State.launch`, on a configuration that breaks a constraint (00_scope R7). Safe. -/
  | badConfiguration
  deriving DecidableEq, Repr

/-- The outcome of a step, a meaning or a launch. -/
abbrev Result := Host.Outcome State Fault Refusal

/-! ### Reset (70_reset R280) -/

/-- STATUS[c] at reset (10_state R23). -/
def Status.atReset (p : Params) (c : Nat) : Status :=
  match p.sched with
  | .interleaved => if p.prog c = [] then .done else .running
  | .nested => if c = 0 then (if p.prog 0 = [] then .done else .running) else .idle

/-- The registers of context c at reset (70_reset R280). -/
def Ctx.atReset (p : Params) (c : Nat) : Ctx where
  pc := 0
  status := Status.atReset p c
  sel := none
  ge := none
  res := none
  handle := none

/-- A mutex at reset (10_state R32). -/
def Mutex.atReset (init : Payload) : Mutex where
  flag := false
  payload := init
  holder := none

/-- ACTIVE at reset (10_state R38). -/
def activeAtReset (p : Params) : List Nat :=
  match p.sched with
  | .interleaved => []
  | .nested => if p.prog 0 = [] then [] else [0]

/-- The state after reset under the parameters p (70_reset R280). -/
def State.resetOf (p : Params) : State where
  params := p
  ctxs := (List.range p.nCtx).map (Ctx.atReset p)
  mem := []
  phase := .unbuilt
  idtr := none
  mutexes := p.mutexInit.map Mutex.atReset
  fault := none
  refused := false
  ie := false
  active := activeAtReset p
  hist := []
  cur := 0
  plan := []
  tick := 0

/-- The launch of a run: "a configuration that breaks [a constraint] is refused" (00_scope R7, 70_reset R280). -/
def State.launch (p : Params) : Result :=
  if p.wf then .next (State.resetOf p) else .refused .badConfiguration

/-- The machine right after reset, launched with `Params.default` (log 1, 2, 3). -/
def State.reset : State := State.resetOf Params.default

end Sys2Proof.Machine
end

