-- ==== Sys2Proof/Machine/Operands.lean ====
section
/-! DEFINITION. The data formats the commands' operands and results are in: selector, attribute byte, gate entry, table pointer
(30_encoding Part A). -/

namespace Sys2Proof.Machine

/-! ### Selector (30_encoding R90) -/

/-- RPL, bits [1:0]. -/
def selRpl (x : Selector) : BitVec 2 := x.extractLsb' 0 2

/-- TI, bit [2]. -/
def selTi (x : Selector) : BitVec 1 := x.extractLsb' 2 1

/-- INDEX, bits [15:3]. -/
def selIndex (x : Selector) : BitVec 13 := x.extractLsb' 3 13

/-- `(SEL & 0xFFFC) | rpl` (40_selector R131). -/
def selWithRpl (x : Selector) (rpl : BitVec 2) : Selector := (x &&& 0xFFFC) ||| rpl.setWidth 16

/-- `(SEL & 0xFFFB) | (ti << 2)` (40_selector R132). -/
def selWithTi (x : Selector) (ti : BitVec 1) : Selector := (x &&& 0xFFFB) ||| (ti.setWidth 16 <<< 2)

/-- `(SEL & 0x0007) | (index << 3)` (40_selector R133). -/
def selWithIndex (x : Selector) (index : BitVec 13) : Selector := (x &&& 0x0007) ||| (index.setWidth 16 <<< 3)

/-! ### Attribute byte (30_encoding R91, R92, R97) -/

/-- P, bit [7]. -/
def attrPresent (a : Byte) : BitVec 1 := a.extractLsb' 7 1

/-- DPL, bits [6:5]. -/
def attrDpl (a : Byte) : BitVec 2 := a.extractLsb' 5 2

/-- Bit [4], which the source does not describe (30_encoding R91). -/
def attrBit4 (a : Byte) : BitVec 1 := a.extractLsb' 4 1

/-- KIND, bits [3:0]. -/
def attrKind (a : Byte) : BitVec 4 := a.extractLsb' 0 4

/-- `(a & 0x7F) | (p << 7)` (41_attribute R151). -/
def attrWithPresent (a : Byte) (p : BitVec 1) : Byte := (a &&& 0x7F) ||| (p.setWidth 8 <<< 7)

/-- `(a & 0xF0) | kind` (41_attribute R152). -/
def attrWithKind (a : Byte) (kind : GateKind) : Byte := (a &&& 0xF0) ||| kind.bits.setWidth 8

/-- `(a & 0x9F) | (dpl << 5)` (41_attribute R153). -/
def attrWithDpl (a : Byte) (dpl : BitVec 2) : Byte := (a &&& 0x9F) ||| (dpl.setWidth 8 <<< 5)

/-- ATTR_DEFAULT: not present, kind unset, privilege level 0 (30_encoding R97). -/
def attrDefault : Byte := 0x00

/-- `a[3:0]` is in VALID_KINDS (30_encoding R92, 60_exceptions R256). -/
def attrKindValid (a : Byte) : Bool := (GateKind.ofBits? (attrKind a)).isSome

/-! ### Gate entry (30_encoding R93 to R96) -/

/-- `off[31:16] ++ attr ++ 0x00 ++ sel ++ off[15:0]` (30_encoding R95). -/
def gateEncode (sel : Selector) (off : Addr) (attr : Byte) : GateEntry :=
  off.extractLsb' 16 16 ++ attr ++ (0x00 : Byte) ++ sel ++ off.extractLsb' 0 16

/-- `e[63:48] ++ e[15:0]` (30_encoding R95). -/
def gateOffset (e : GateEntry) : Addr := e.extractLsb' 48 16 ++ e.extractLsb' 0 16

/-- `e[31:16]` (30_encoding R95). -/
def gateSel (e : GateEntry) : Selector := e.extractLsb' 16 16

/-- `e[47:40]` (30_encoding R95). -/
def gateAttr (e : GateEntry) : Byte := e.extractLsb' 40 8

/-- The reserved byte, `e[39:32]` (30_encoding R94). -/
def gateReserved (e : GateEntry) : Byte := e.extractLsb' 32 8

/-- `e[63:48] ++ a ++ e[39:0]` (41_attribute R150, attr_write with t = 0). -/
def gateWithAttr (e : GateEntry) (a : Byte) : GateEntry := e.extractLsb' 48 16 ++ a ++ e.extractLsb' 0 40

/-- The missing entry: all eight bytes 0x00 (30_encoding R96). -/
def gateMissingEntry : GateEntry := 0

/-- Byte k of a gate entry in memory order (30_encoding R93, 20_memory R62). -/
def gateByte (e : GateEntry) (k : Nat) : Byte := e.extractLsb' (8 * k) 8

/-! ### Descriptor table pointer (30_encoding R98) -/

/-- `TBASE[31:0] ++ (8*N_VECTORS - 1)[15:0]` (43_idt R192). -/
def pointerOf (p : Params) : Pointer := p.tbase ++ BitVec.ofNat 16 (p.tableBytes - 1)

/-- SIZE, bits [15:0]. -/
def pointerSize (p : Pointer) : BitVec 16 := p.extractLsb' 0 16

/-- BASE, bits [47:16]. -/
def pointerBase (p : Pointer) : Addr := p.extractLsb' 16 32

/-- Byte k of the pointer in memory order (30_encoding R98; little-endian by 92 D29). -/
def pointerByte (p : Pointer) (k : Nat) : Byte := p.extractLsb' (8 * k) 8

/-! ### Numbers of the named things -/

/-- The code of a fault (60_exceptions R250). -/
def FaultCode.number : FaultCode → Nat
  | .illegal => 1
  | .privilege => 2
  | .uninit => 3
  | .tableLocked => 4
  | .vectorRange => 5
  | .noHandle => 6
  | .guardNotHeld => 7
  | .mutexBusy => 8
  | .dispatch => 9

/-- The subcode of a DISPATCH fault (60_exceptions R250). -/
def DispatchSub.number : DispatchSub → Nat
  | .notLoaded => 1
  | .limit => 2
  | .notPresent => 3
  | .badKind => 4
  | .dpl => 5

/-- `sub = (subcode or 0)` (60_exceptions R251). -/
def FaultRecord.subNumber (r : FaultRecord) : Nat :=
  match r.sub with
  | some x => x.number
  | none => 0

end Sys2Proof.Machine
end

