-- ==== Sys2Proof/Machine/Memory.lean ====
section
/-! DEFINITION. The byte-addressed data memory and the primitives MemRead and MemWrite (00_scope R10, 20_memory R60 to R67). -/

namespace Sys2Proof.Machine

/-- What an address not listed reads as: the reset contents of TR (10_state R28). -/
def Memory.unlisted : Byte := 0x00

/-- MEM[a]. -/
def Memory.read : Memory → Nat → Byte
  | [], _ => Memory.unlisted
  | (b, y) :: rest, a => if a = b then y else Memory.read rest a

/-- MEM[a] <- x, keeping the canonical form. -/
def Memory.write : Memory → Nat → Byte → Memory
  | [], a, x => if x = Memory.unlisted then [] else [(a, x)]
  | (b, y) :: rest, a, x =>
    if a < b then (if x = Memory.unlisted then (b, y) :: rest else (a, x) :: (b, y) :: rest)
    else if a = b then (if x = Memory.unlisted then rest else (a, x) :: rest)
    else (b, y) :: Memory.write rest a x

/-- MemRead(a, n): n bytes, little-endian, as a number (00_scope R10, 20_memory R62). -/
def Memory.readLE (m : Memory) (a : Nat) : Nat → Nat
  | 0 => 0
  | n + 1 => (Memory.read m a).toNat + 2 ^ 8 * Memory.readLE m (a + 1) n

/-- MemWrite(a, n, v): n bytes, little-endian (00_scope R10, 20_memory R62). -/
def Memory.writeLE (m : Memory) (a : Nat) : Nat → Nat → Memory
  | 0, _ => m
  | n + 1, v => Memory.writeLE (Memory.write m a (BitVec.ofNat 8 v)) (a + 1) n (v / 2 ^ 8)

/-- Every byte of [a, a+n) <- 0x00: the whole-table write of IDT_NEW in one pass (43_idt R190). -/
def Memory.clear (m : Memory) (a n : Nat) : Memory :=
  m.filter fun c => !(decide (a ≤ c.1) && decide (c.1 < a + n))

/-- MemRead(a, 8) as a gate entry (30_encoding R94). -/
def Memory.readEntry (m : Memory) (a : Nat) : GateEntry := BitVec.ofNat 64 (Memory.readLE m a 8)

/-- The canonical form: addresses strictly rising, no entry equal to what an unlisted address reads as. -/
abbrev Memory.wf (m : Memory) : Prop :=
  m.Pairwise (fun x y => x.1 < y.1) ∧ ∀ x ∈ m, x.2 ≠ Memory.unlisted

/-! ### The table region (10_state R28, 20_memory R65) -/

/-- The address of entry v, TBASE + 8*v. -/
def entryAddr (p : Params) (v : Nat) : Nat := p.tbase.toNat + 8 * v

/-- The address of the attribute byte of entry v, TBASE + 8*v + 5 (41_attribute R150). -/
def attrAddr (p : Params) (v : Nat) : Nat := entryAddr p v + 5

/-- The n bytes from a lie in TR. -/
def inTable (p : Params) (a n : Nat) : Bool :=
  decide (p.tbase.toNat ≤ a) && decide (a + n ≤ p.tbase.toNat + p.tableBytes)

end Sys2Proof.Machine
end

