-- ==== Sys2Proof/Machine/Ops.lean ====
section
/-! DEFINITION. The named operations over the registers, the table and the history, raising a fault (60_exceptions R251), and
the end of a context (10_state R23, 44_spinlock R227). -/

namespace Sys2Proof.Machine

/-! ### Reading registers -/

/-- What an index with no context reads as; no rule names one (log 17). -/
def Ctx.absent : Ctx where
  pc := 0
  status := .idle
  sel := none
  ge := none
  res := none
  handle := none

/-- What an index with no mutex reads as; a word that names one is illegal (30_encoding R105(c), log 17). -/
def Mutex.absent : Mutex where
  flag := false
  payload := 0
  holder := none

/-- The registers of context c (10_state R21). -/
def State.ctx (s : State) (c : Nat) : Ctx := s.ctxs.getD c Ctx.absent

/-- The registers of the context whose command is executed: X[c] of the rules. -/
def State.me (s : State) : Ctx := s.ctx s.cur

/-- FLAG[m], PAYLOAD[m] and HOLDER[m] (10_state R32). -/
def State.mutex (s : State) (m : Nat) : Mutex := s.mutexes.getD m Mutex.absent

/-- PROG[c]. -/
def State.prog (s : State) (c : Nat) : List Word := s.params.prog c

/-- CTX_CPL[c] (10_state R21). -/
def State.cpl (s : State) (c : Nat) : BitVec 2 := s.params.cpl c

/-- IDTR.valid (10_state R30, R36). -/
def State.idtrValid (s : State) : Bool := s.idtr.isSome

/-- The word at PC[c] of PROG[c] (10_state R22). -/
def State.fetch (s : State) (c : Nat) : Option Word := (s.prog c)[(s.ctx c).pc]?

/-! ### Writing registers -/

/-- Writes registers of context c. -/
def State.updCtx (s : State) (c : Nat) (f : Ctx → Ctx) : State := { s with ctxs := s.ctxs.modify c f }

/-- Writes registers of the context whose command is executed. -/
def State.updMe (s : State) (f : Ctx → Ctx) : State := s.updCtx s.cur f

/-- `SEL[c] <- x`. -/
def State.setSel (s : State) (x : Selector) : State := s.updMe fun k => { k with sel := some x }

/-- `GE[c] <- e`. -/
def State.setGe (s : State) (e : GateEntry) : State := s.updMe fun k => { k with ge := some e }

/-- `RES[c] <- x`. -/
def State.setRes (s : State) (x : Payload) : State := s.updMe fun k => { k with res := some x }

/-- `HANDLE[c] <- v`. -/
def State.setHandle (s : State) (v : Nat) : State := s.updMe fun k => { k with handle := some v }

/-- `PC[c] <- PC[c] + 1` (00_scope R9, R12). -/
def State.advance (s : State) : State := s.updMe fun k => { k with pc := k.pc + 1 }

/-- `for every context c': HANDLE[c'] <- ⊥` (43_idt R190, R192). -/
def State.clearHandles (s : State) : State := { s with ctxs := s.ctxs.map fun k => { k with handle := none } }

/-- Writes a mutex. -/
def State.updMutex (s : State) (m : Nat) (f : Mutex → Mutex) : State := { s with mutexes := s.mutexes.modify m f }

/-- `PHASE <- ph`. -/
def State.setPhase (s : State) (ph : Phase) : State := { s with phase := ph }

/-- `ACTIVE <- l`, top last (10_state R38). -/
def State.setActive (s : State) (l : List Nat) : State := { s with active := l }

/-- `IE <- b`, the environment's write (60_exceptions R259). -/
def State.setIe (s : State) (b : Bool) : State := { s with ie := b }

/-- `REFUSED <- 1` (60_exceptions R257, log 8). -/
def State.refuse (s : State) : State := { s with refused := true }

/-- Records an event in HIST (10_state R39). -/
def State.record (s : State) (e : Event) : State := { s with hist := s.hist ++ [e] }

/-- A write of n bytes of TR with its event (10_state R39). -/
def State.writeTable (s : State) (a n v : Nat) : State :=
  { s with mem := Memory.writeLE s.mem a n v }.record (.tableWrite a n v)

/-- The write of zeros to every entry (43_idt R190), one block of 8*N_VECTORS bytes (20_memory R63, R65; the event: log 11). -/
def State.clearTable (s : State) : State :=
  { s with mem := Memory.clear s.mem s.params.tbase.toNat s.params.tableBytes }.record
    (.tableWrite s.params.tbase.toNat s.params.tableBytes 0)

/-! ### Raising a fault (60_exceptions R251) -/

/-- `raise code(info)` by the context whose command is executed: FAULT is written, and nothing else. -/
def State.raise (s : State) (code : FaultCode) (info : BitVec 32) : State :=
  { s with fault := some ⟨code, none, .ctx s.cur, some s.me.pc, s.fetch s.cur, info⟩ }

/-- `raise DISPATCH(sub, info = v)` by the dispatch agent: FAULT is written, the dispatch is recorded with its outcome (10_state
R39, log 10), and nothing else is written. -/
def State.raiseDispatch (s : State) (sub : DispatchSub) (r : Request) : State :=
  { s with fault := some ⟨.dispatch, some sub, .disp, none, none, BitVec.ofNat 32 r.vector⟩ }.record
    (.dispatchFailed r.vector r.source sub)

/-- The faulting outcome of a command: a next state that differs in FAULT only. There is no return from a fault
(60_exceptions R254). -/
def raising (s : State) (code : FaultCode) (info : BitVec 32) : Result := .next (s.raise code info)

/-! ### Operand checks of the commands -/

/-- Reads SEL[c], or raises UNINIT (10_state R24). -/
def needSel (s : State) (k : Selector → Result) : Result :=
  match s.me.sel with
  | some x => k x
  | none => raising s .uninit 0

/-- Reads GE[c], or raises UNINIT (10_state R25). -/
def needGe (s : State) (k : GateEntry → Result) : Result :=
  match s.me.ge with
  | some e => k e
  | none => raising s .uninit 0

/-- Reads RES[c], or raises UNINIT (44_spinlock R226). -/
def needRes (s : State) (k : Payload → Result) : Result :=
  match s.me.res with
  | some x => k x
  | none => raising s .uninit 0

/-- `if PHASE = LOADED then raise TABLE_LOCKED(info)` (43_idt R190 to R192). -/
def needUnlocked (s : State) (info : BitVec 32) (k : Result) : Result :=
  if s.phase = .loaded then raising s .tableLocked info else k

/-- `if HOLDER[m] ≠ c then raise GUARD_NOT_HELD(info = m)` (44_spinlock R223 to R226). -/
def needGuard (s : State) (m : BitVec 8) (k : Result) : Result :=
  if (s.mutex m.toNat).holder = some s.cur then k else raising s .guardNotHeld (m.setWidth 32)

/-- An access of one byte at a in TR. No rule makes another (20_memory R61, log 13). -/
def needInTable (s : State) (a n : Nat) (k : Result) : Result :=
  if inTable s.params a n then k else .fault (.outsideTable a)

/-- `attr_read(c, t, set)` (41_attribute R150). -/
def attrRead (s : State) (t : Target) (set : Bool) (k : Byte → Result) : Result :=
  match t with
  | .ge => needGe s fun e => k (gateAttr e)
  | .tbl =>
    if set && decide (s.phase = .loaded) then raising s .tableLocked 0
    else match s.me.handle with
      | none => raising s .noHandle 0
      | some v => needInTable s (attrAddr s.params v) 1 (k (Memory.read s.mem (attrAddr s.params v)))

/-- `attr_write(c, t, a)` (41_attribute R150). It follows an `attr_read` that returned, so the register it goes by holds a
value. -/
def State.attrWrite (s : State) (t : Target) (a : Byte) : State :=
  match t with
  | .ge =>
    match s.me.ge with
    | some e => s.setGe (gateWithAttr e a)
    | none => s
  | .tbl =>
    match s.me.handle with
    | some v => s.writeTable (attrAddr s.params v) 1 a.toNat
    | none => s

/-! ### The end of a context (10_state R23, 44_spinlock R227) -/

/-- The mutexes whose guard context c holds, in rising order. -/
def State.heldBy (s : State) (c : Nat) : List Nat :=
  (List.range s.mutexes.length).filter fun m => decide ((s.mutex m).holder = some c)

/-- `FLAG[m] <- 0; HOLDER[m] <- ⊥`, the release of a guard (44_spinlock R223, R227). -/
def Mutex.released (x : Mutex) : Mutex := { x with flag := false, holder := none }

/-- `for every m with HOLDER[m] = c: FLAG[m] <- 0; HOLDER[m] <- ⊥` (44_spinlock R227), each release recorded (R39, log 11). -/
def State.releaseAll (s : State) (c : Nat) : State :=
  { s with
    mutexes := s.mutexes.map fun x => if x.holder = some c then x.released else x
    hist := s.hist ++ (s.heldBy c).map (Event.release c) }

/-- The end of context c (10_state R23). DEDUCED (log 9): context 0's end under NESTED leaves ACTIVE empty, as its COMPLETED
outcome needs (70_reset R284). -/
def State.endContext (s : State) (c : Nat) : State :=
  let s := s.releaseAll c
  match s.params.sched with
  | .interleaved => s.updCtx c fun k => { k with status := .done }
  | .nested =>
    if c = 0 then (s.setActive s.active.dropLast).updCtx c fun k => { k with status := .done }
    else (s.setActive s.active.dropLast).updCtx c fun k => { k with status := .idle, pc := 0 }

/-- "A context ends when a step leaves PC[c] = len(PROG[c])" (10_state R23). -/
def State.endIfFinished (s : State) (c : Nat) : State :=
  if (s.ctx c).pc = (s.prog c).length then s.endContext c else s

/-- Continues a next state by f; a stop stays. -/
def onNext (r : Result) (f : State → State) : Result :=
  match r with
  | .next s => .next (f s)
  | .fault x => .fault x
  | .refused x => .refused x

end Sys2Proof.Machine
end

