-- ==== Sys2Proof/Machine/Flags.lean ====
section
/-! DEFINITION. The status bits of the block (10_state R36; it has no condition codes) and the two operations on the lock flag
(44_spinlock R221, R223). -/

namespace Sys2Proof.Machine

/-- FLAG[m] (10_state R36(a)). -/
def State.flag (s : State) (m : Nat) : Bool := (s.mutex m).flag

/-- The present bit of table entry v (10_state R36(b)). -/
def State.entryPresent (s : State) (v : Nat) : BitVec 1 := attrPresent (Memory.read s.mem (attrAddr s.params v))

/-- FAULT is not none (10_state R36(d)). -/
def State.isFaulted (s : State) : Bool := s.fault.isSome

/-- `xchg_acquire(m)`: `old <- FLAG[m]; FLAG[m] <- 1; return old`, one indivisible step (44_spinlock R221;
its acquire ordering: log 20). -/
def State.xchgAcquire (s : State) (m : Nat) : Bool × State :=
  (s.flag m, s.updMutex m fun x => { x with flag := true })

/-- The release-ordered clear of the flag, with the guard (44_spinlock R223). -/
def State.release (s : State) (m : Nat) : State := s.updMutex m Mutex.released

end Sys2Proof.Machine
end

