-- ==== Sys2Proof/Machine/Attribute.lean ====
section
/-! DEFINITION. The attribute-byte commands (41_attribute R150 to R156). -/

namespace Sys2Proof.Machine

/-- A setter of the target attribute byte (41_attribute R151 to R153). -/
def setAttrField (t : Target) (f : Byte → Byte) (s : State) : Result :=
  attrRead s t true fun a => .next (s.attrWrite t (f a)).advance

/-- An extraction from the target attribute byte into RES[c] (41_attribute R154 to R156). -/
def getAttrField (t : Target) (f : Byte → Payload) (s : State) : Result :=
  attrRead s t false fun a => .next (s.setRes (f a)).advance

/-- ATTR_SET_PRESENT (41_attribute R151). -/
def execAttrSetPresent (t : Target) (p : BitVec 1) (s : State) : Result := setAttrField t (fun a => attrWithPresent a p) s

/-- ATTR_SET_GATE_KIND (41_attribute R152). -/
def execAttrSetGateKind (t : Target) (kind : GateKind) (s : State) : Result := setAttrField t (fun a => attrWithKind a kind) s

/-- ATTR_SET_DPL (41_attribute R153). -/
def execAttrSetDpl (t : Target) (dpl : BitVec 2) (s : State) : Result := setAttrField t (fun a => attrWithDpl a dpl) s

/-- ATTR_GET_PRESENT (41_attribute R154). -/
def execAttrGetPresent (t : Target) (s : State) : Result := getAttrField t (fun a => (attrPresent a).setWidth 32) s

/-- ATTR_GET_GATE_KIND (41_attribute R155). -/
def execAttrGetGateKind (t : Target) (s : State) : Result := getAttrField t (fun a => (attrKind a).setWidth 32) s

/-- ATTR_GET_DPL (41_attribute R156). -/
def execAttrGetDpl (t : Target) (s : State) : Result := getAttrField t (fun a => (attrDpl a).setWidth 32) s

end Sys2Proof.Machine
end

