-- ==== Sys2Proof/Machine/Gate.lean ====
section
/-! DEFINITION. The gate-entry commands (42_gate_entry R170 to R174). -/

namespace Sys2Proof.Machine

/-- An extraction from GE[c] into RES[c] (42_gate_entry R172 to R174). -/
def getGateField (f : GateEntry → Payload) (s : State) : Result :=
  needGe s fun e => .next (s.setRes (f e)).advance

/-- GATE_NEW (42_gate_entry R170). -/
def execGateNew (addr : Addr) (s : State) : Result :=
  needSel s fun x => .next (s.setGe (gateEncode x addr attrDefault)).advance

/-- GATE_MISSING (42_gate_entry R171). -/
def execGateMissing (s : State) : Result := .next (s.setGe gateMissingEntry).advance

/-- GATE_GET_OFFSET (42_gate_entry R172). -/
def execGateGetOffset (s : State) : Result := getGateField gateOffset s

/-- GATE_GET_SEL (42_gate_entry R173). -/
def execGateGetSel (s : State) : Result := getGateField (fun e => (gateSel e).setWidth 32) s

/-- GATE_GET_ATTR (42_gate_entry R174). -/
def execGateGetAttr (s : State) : Result := getGateField (fun e => (gateAttr e).setWidth 32) s

end Sys2Proof.Machine
end

