-- ==== Sys2Proof/Machine/Selector.lean ====
section
/-! DEFINITION. The selector commands (40_selector R130 to R136). -/

namespace Sys2Proof.Machine

/-- A setter of SEL[c] (40_selector R131 to R133). -/
def setSelField (f : Selector → Selector) (s : State) : Result :=
  needSel s fun x => .next (s.setSel (f x)).advance

/-- An extraction from SEL[c] into RES[c] (40_selector R134 to R136). -/
def getSelField (f : Selector → Payload) (s : State) : Result :=
  needSel s fun x => .next (s.setRes (f x)).advance

/-- SEL_NEW (40_selector R130). -/
def execSelNew (s : State) : Result := .next (s.setSel 0x0000).advance

/-- SEL_SET_RPL (40_selector R131). -/
def execSelSetRpl (rpl : BitVec 2) (s : State) : Result := setSelField (fun x => selWithRpl x rpl) s

/-- SEL_SET_TI (40_selector R132). -/
def execSelSetTi (ti : BitVec 1) (s : State) : Result := setSelField (fun x => selWithTi x ti) s

/-- SEL_SET_INDEX (40_selector R133). -/
def execSelSetIndex (index : BitVec 13) (s : State) : Result := setSelField (fun x => selWithIndex x index) s

/-- SEL_GET_RPL (40_selector R134). -/
def execSelGetRpl (s : State) : Result := getSelField (fun x => (selRpl x).setWidth 32) s

/-- SEL_GET_TI (40_selector R135). -/
def execSelGetTi (s : State) : Result := getSelField (fun x => (selTi x).setWidth 32) s

/-- SEL_GET_INDEX (40_selector R136). -/
def execSelGetIndex (s : State) : Result := getSelField (fun x => (selIndex x).setWidth 32) s

end Sys2Proof.Machine
end

