-- ==== Sys2Proof/Machine/Spinlock.lean ====
section
/-! DEFINITION. The spinlock mutex commands (44_spinlock R220 to R226). -/

namespace Sys2Proof.Machine

/-- `PAYLOAD[m] <- d`. -/
def State.setPayload (s : State) (m : Nat) (d : Payload) : State := s.updMutex m fun x => { x with payload := d }

/-- MUTEX_NEW (44_spinlock R220). -/
def execMutexNew (m : BitVec 8) (d : Payload) (s : State) : Result :=
  if s.flag m.toNat then raising s .mutexBusy (m.setWidth 32)
  else .next (s.updMutex m.toNat fun _ => ⟨false, d, none⟩).advance

/-- MUTEX_LOCK (44_spinlock R222): one step is one attempt. A failed attempt changes nothing but HIST, which records every
attempt (10_state R39). -/
def execMutexLock (m : BitVec 8) (s : State) : Result :=
  match s.xchgAcquire m.toNat with
  | (false, t) =>
    .next ((t.updMutex m.toNat fun x => { x with holder := some s.cur }).record (.lockAttempt s.cur m.toNat true)).advance
  | (true, t) => .next (t.record (.lockAttempt s.cur m.toNat false))

/-- MUTEX_UNLOCK (44_spinlock R223). -/
def execMutexUnlock (m : BitVec 8) (s : State) : Result :=
  needGuard s m (.next ((s.release m.toNat).record (.release s.cur m.toNat)).advance)

/-- MUTEX_READ (44_spinlock R224). -/
def execMutexRead (m : BitVec 8) (s : State) : Result :=
  needGuard s m (.next (s.setRes (s.mutex m.toNat).payload).advance)

/-- MUTEX_WRITE (44_spinlock R225). -/
def execMutexWrite (m : BitVec 8) (d : Payload) (s : State) : Result :=
  needGuard s m (.next (s.setPayload m.toNat d).advance)

/-- MUTEX_WRITEADD (44_spinlock R226): UNINIT before GUARD_NOT_HELD (60_exceptions R253); the sum wraps modulo 2^32. -/
def execMutexWriteadd (m : BitVec 8) (d : Payload) (s : State) : Result :=
  needRes s fun x => needGuard s m (.next (s.setPayload m.toNat (x + d)).advance)

end Sys2Proof.Machine
end

