-- ==== Sys2Proof/Machine/Table.lean ====
section
/-! DEFINITION. The table commands (43_idt R190 to R192). -/

namespace Sys2Proof.Machine

/-- IDT_NEW (43_idt R190). -/
def execIdtNew (s : State) : Result :=
  needUnlocked s 0 (.next ((s.clearTable.setPhase .unbuilt).clearHandles).advance)

/-- The 8-byte entry IDT_SET_HANDLER writes (43_idt R191). -/
def handlerEntry (p : Params) (addr : Addr) : GateEntry := gateEncode p.handlerSel addr attrDefault

/-- IDT_SET_HANDLER (43_idt R191): TABLE_LOCKED before VECTOR_RANGE (60_exceptions R253). -/
def execIdtSetHandler (v : BitVec 16) (addr : Addr) (s : State) : Result :=
  needUnlocked s (v.setWidth 32)
    (if v.toNat < s.params.nVectors then
      .next (((s.writeTable (entryAddr s.params v.toNat) 8 (handlerEntry s.params addr).toNat).setPhase .populated).setHandle
        v.toNat).advance
    else raising s .vectorRange (v.setWidth 32))

/-- `IDTR.limit <- p[15:0]; IDTR.base <- p[47:16]; IDTR.valid <- 1` (43_idt R192), with the event (10_state R39). The pointer
exists in this step only (10_state R31). -/
def State.loadIdtr (s : State) (p : Pointer) : State :=
  { s with idtr := some ⟨pointerSize p, pointerBase p⟩ }.record (.load p)

/-- IDT_LOAD (43_idt R192): PRIVILEGE before TABLE_LOCKED (60_exceptions R253). -/
def execIdtLoad (s : State) : Result :=
  if s.cpl s.cur = 0 then
    needUnlocked s 0 (.next (((s.loadIdtr (pointerOf s.params)).setPhase .loaded).clearHandles).advance)
  else raising s .privilege ((s.cpl s.cur).setWidth 32)

end Sys2Proof.Machine
end

