-- ==== Sys2Proof/Machine/Dispatch.lean ====
section
/-! DEFINITION. One command of the context s.cur (30_encoding R104), by constructor. -/

namespace Sys2Proof.Machine

def exec (i : Instr) (s : State) : Host.Outcome State Fault Refusal :=
  match i with
  | .selNew => Sys2Proof.Machine.execSelNew s
  | .selSetRpl rpl => Sys2Proof.Machine.execSelSetRpl rpl s
  | .selSetTi ti => Sys2Proof.Machine.execSelSetTi ti s
  | .selSetIndex index => Sys2Proof.Machine.execSelSetIndex index s
  | .selGetRpl => Sys2Proof.Machine.execSelGetRpl s
  | .selGetTi => Sys2Proof.Machine.execSelGetTi s
  | .selGetIndex => Sys2Proof.Machine.execSelGetIndex s
  | .attrSetPresent t p => Sys2Proof.Machine.execAttrSetPresent t p s
  | .attrSetGateKind t kind => Sys2Proof.Machine.execAttrSetGateKind t kind s
  | .attrSetDpl t dpl => Sys2Proof.Machine.execAttrSetDpl t dpl s
  | .attrGetPresent t => Sys2Proof.Machine.execAttrGetPresent t s
  | .attrGetGateKind t => Sys2Proof.Machine.execAttrGetGateKind t s
  | .attrGetDpl t => Sys2Proof.Machine.execAttrGetDpl t s
  | .gateNew addr => Sys2Proof.Machine.execGateNew addr s
  | .gateMissing => Sys2Proof.Machine.execGateMissing s
  | .gateGetOffset => Sys2Proof.Machine.execGateGetOffset s
  | .gateGetSel => Sys2Proof.Machine.execGateGetSel s
  | .gateGetAttr => Sys2Proof.Machine.execGateGetAttr s
  | .idtNew => Sys2Proof.Machine.execIdtNew s
  | .idtSetHandler v addr => Sys2Proof.Machine.execIdtSetHandler v addr s
  | .idtLoad => Sys2Proof.Machine.execIdtLoad s
  | .mutexNew m d => Sys2Proof.Machine.execMutexNew m d s
  | .mutexLock m => Sys2Proof.Machine.execMutexLock m s
  | .mutexUnlock m => Sys2Proof.Machine.execMutexUnlock m s
  | .mutexRead m => Sys2Proof.Machine.execMutexRead m s
  | .mutexWrite m d => Sys2Proof.Machine.execMutexWrite m d s
  | .mutexWriteadd m d => Sys2Proof.Machine.execMutexWriteadd m d s

end Sys2Proof.Machine
end

