-- ==== Sys2Proof/Machine/Interrupts.lean ====
section
/-! DEFINITION. The dispatch agent (60_exceptions R256, R257). -/

namespace Sys2Proof.Machine

/-- Starts handler context h: pushes it on ACTIVE, runs it from command 0 (60_exceptions R257). A handler with an empty list
ends in the same step. -/
def State.startHandler (s : State) (h : Nat) : State :=
  ((s.setActive (s.active ++ [h])).updCtx h fun k => { k with status := .running, pc := 0 }).endIfFinished h

/-- Activation after delivery (60_exceptions R257). -/
def State.activate (s : State) (v : Nat) : State :=
  match s.params.sched with
  | .interleaved => s
  | .nested =>
    match s.params.handlerOf v with
    | none => s
    | some h => if (s.ctx h).status = .idle then s.startHandler h else s.refuse

/-- The DPL test, of SOFTWARE requests only: `cpl > a[6:5]` fails (60_exceptions R256). -/
def dplFails (src : Source) (a : Byte) : Bool :=
  match src with
  | .software cpl => decide ((attrDpl a).toNat < cpl.toNat)
  | .external => false
  | .exception => false

/-- The tests on the entry read and the delivery (60_exceptions R256). -/
def deliver (r : Request) (e : GateEntry) (s : State) : State :=
  if attrPresent (gateAttr e) = 0 then s.raiseDispatch .notPresent r
  else if !attrKindValid (gateAttr e) then s.raiseDispatch .badKind r
  else if dplFails r.source (gateAttr e) then s.raiseDispatch .dpl r
  else (s.record (.deliver r.vector r.source (gateOffset e) (gateSel e) (gateAttr e))).activate r.vector

/-- `dispatch(v, src)` (60_exceptions R256). -/
def dispatch (r : Request) (s : State) : Result :=
  match s.idtr with
  | none => .next (s.raiseDispatch .notLoaded r)
  | some t =>
    if t.limit.toNat < 8 * r.vector + 7 then .next (s.raiseDispatch .limit r)
    else needInTable s (t.base.toNat + 8 * r.vector) 8
      (.next (deliver r (Memory.readEntry s.mem (t.base.toNat + 8 * r.vector)) s))

end Sys2Proof.Machine
end

