-- ==== Sys2Proof/Machine/Schedule.lean ====
section
/-! DEFINITION. Which steps are possible, which one is taken, and taking it (70_reset R283, R284; 60_exceptions R255, R259). -/

namespace Sys2Proof.Machine

/-! ### The requests of REQ (00_scope R7, 60_exceptions R255) -/

/-- Membership in REQ, with 0 <= v < 2^VEC_BITS. -/
def mayRequest (p : Params) (r : Request) : Bool :=
  decide (r.vector < 2 ^ p.vecBits) &&
    match p.req with
    | .all => true
    | .only rs => decide (r ∈ rs)

/-- The sources a request may have. -/
def Source.every : List Source :=
  [.external, .exception, .software 0, .software 1, .software 2, .software 3]

/-- The requests of REQ as a list. -/
def requestsOf (p : Params) : List Request :=
  match p.req with
  | .all => (List.range (2 ^ p.vecBits)).flatMap fun v => Source.every.map fun src => ⟨v, src⟩
  | .only rs => rs.filter fun r => decide (r.vector < 2 ^ p.vecBits)

/-! ### The possible steps (70_reset R283) -/

/-- The eligible contexts (70_reset R283). -/
def State.eligible (s : State) (c : Nat) : Bool :=
  match s.params.sched with
  | .interleaved => decide (c < s.ctxs.length) && decide ((s.ctx c).status = .running)
  | .nested => decide (s.active.getLast? = some c) && decide ((s.ctx c).status = .running)

/-- The requests that may be raised: of REQ, and EXTERNAL ones only while IE = 1 (60_exceptions R255). -/
def State.mayRaise (s : State) (r : Request) : Bool :=
  mayRequest s.params r && (decide (r.source ≠ .external) || s.ie)

/-- The steps (a), (b) and (c) of 70_reset R283. IE may change only while PHASE = LOADED (60_exceptions R259). -/
def State.possible (s : State) (m : Move) : Bool :=
  match m with
  | .ctx c => s.eligible c
  | .request r => s.mayRaise r
  | .setIE _ => decide (s.phase = .loaded)

/-- Every possible step, as a list. -/
def State.possibleMoves (s : State) : List Move :=
  (((List.range s.ctxs.length ++ s.active).map Move.ctx) ++ ((requestsOf s.params).map Move.request) ++
    [Move.setIE true, Move.setIE false]).filter s.possible

/-- The choice the schedule is free in: one of the possible steps, which one is not known (log 4). -/
def State.freeMove (s : State) : Option Move :=
  s.possibleMoves[Config.freeChoice s.tick % s.possibleMoves.length]?

/-- The step taken: the oldest choice already made, if that step is possible, else a free one (log 4). None if no step is
possible. -/
def State.nextMove (s : State) : Option Move :=
  match s.plan with
  | m :: _ => if s.possible m then some m else s.freeMove
  | [] => s.freeMove

/-- The choice is made: it leaves the plan, and the step is counted. -/
def State.consumeChoice (s : State) : State := { s with plan := s.plan.tail, tick := s.tick + 1 }

/-! ### Outcomes of a run (70_reset R284) -/

/-- COMPLETED: no fault, not refused, and under INTERLEAVED every context is DONE, under NESTED context 0 is DONE and ACTIVE is
empty (70_reset R284). -/
def State.completed (s : State) : Bool :=
  s.fault.isNone && !s.refused &&
    match s.params.sched with
    | .interleaved => s.ctxs.all fun k => decide (k.status = .done)
    | .nested => decide ((s.ctx 0).status = .done) && decide (s.active = [])

/-! ### Taking a step -/

/-- The context c becomes the one whose command is executed. -/
def State.focus (s : State) (c : Nat) : State := { s with cur := c }

/-- One command of context c: fetch (10_state R22), decode (30_encoding R106; an illegal word raises ILLEGAL, R105), execute, and
the end of the context in the same step (10_state R23). -/
def runContext (c : Nat) (s : State) : Result :=
  match s.fetch c with
  | none => .fault .stuck
  | some w =>
    match decode s.params.nMutex w with
    | .error _ => raising (s.focus c) .illegal 0
    | .ok i => onNext (exec i (s.focus c)) fun t => t.endIfFinished c

/-- One step of the machine (70_reset R283). -/
def takeMove (m : Move) (s : State) : Result :=
  match m with
  | .ctx c => runContext c s
  | .request r => dispatch r s
  | .setIE b => .next (s.setIe b)

/-- The step of the machine: none while FAULT ≠ none or REFUSED = 1 (70_reset R283), none after COMPLETED (R284). -/
def stepOnce (s : State) : Result :=
  match s.fault with
  | some r => .fault (.faulted r)
  | none =>
    if s.refused then .refused .reentered
    else if s.completed then .fault .completed
    else match s.nextMove with
      | none => .fault .stuck
      | some m => takeMove m s.consumeChoice

/-! ### Placing a program word -/

/-- The context that steps next when a context is to step: the first eligible one, else context 0. -/
def State.fetchCtx (s : State) : Nat :=
  match (List.range s.ctxs.length).find? s.eligible with
  | some c => c
  | none => 0

/-- The command list with w at index pc. -/
def placeWord (prog : List Word) (pc : Nat) (w : Word) : List Word :=
  prog.take pc ++ List.replicate (pc - prog.length) 0 ++ [w] ++ prog.drop (pc + 1)

/-- The word w as the next command of the machine: at PC[c] of PROG[c] of the context that steps next, which is running, and the
schedule's next choice is that context (log 3). -/
def State.placeNext (s : State) (w : Word) : State :=
  let c := s.fetchCtx
  let pc := (s.ctx c).pc
  let params := { s.params with contexts := s.params.contexts.modify c fun k => { k with prog := placeWord k.prog pc w } }
  let active := match s.params.sched with
    | .interleaved => s.active
    | .nested => if s.active = [] then [c] else s.active
  { s with params := params, active := active, plan := .ctx c :: s.plan }.updCtx c fun k => { k with status := .running }

end Sys2Proof.Machine
end

