-- ==== Sys2Proof/Machine/Step.lean ====
section
/-! DEFINITION. The step of the machine, and the placing of a word where it fetches its next command. -/

namespace Sys2Proof.Machine

/-- One step (70_reset R283). -/
def step (s : State) : Host.Outcome State Fault Refusal := stepOnce s

/-- s with the word w as its next command. Commands are not in memory: they are launch parameters, PROG[c] (20_memory R75), so
this stands for the load of a program from outside the machine (log 3). -/
def State.withFetchWord (s : State) (nbits w : Nat) : State := s.placeNext (BitVec.ofNat 64 (w % 2 ^ nbits))

end Sys2Proof.Machine
end

