-- ==== Sys2Proof/Machine/Assembler.lean ====
section
/-! DEFINITION. The assembler: the syntax of a line, its operands and the pseudo-instructions (30_encoding R108, R109; what R108
does not say of the characters: log 21). -/

namespace Sys2Proof.Machine

/-- A gate kind operand: a number, or a name (30_encoding R108). -/
inductive KindArg where
  | num (n : Nat)
  | name (k : GateKind)
  deriving DecidableEq, Repr

/-- A table indicator operand: a number, GDT (0) or LDT (1) (30_encoding R108). -/
inductive TiArg where
  | num (n : Nat)
  | gdt
  | ldt
  deriving DecidableEq, Repr

/-- One assembler line: a command, or a pseudo-instruction, with its operands as written (30_encoding R108, R109). Numbers are
unbounded; a mutex is its number, whether written `m<n>` or as a number. -/
inductive AsmLine where
  | selNew
  | selSetRpl (rpl : Nat)
  | selSetTi (ti : TiArg)
  | selSetIndex (index : Nat)
  | selGetRpl
  | selGetTi
  | selGetIndex
  | attrSetPresent (t : Target) (p : Nat)
  | attrSetGateKind (t : Target) (kind : KindArg)
  | attrSetDpl (t : Target) (dpl : Nat)
  | attrGetPresent (t : Target)
  | attrGetGateKind (t : Target)
  | attrGetDpl (t : Target)
  | gateNew (addr : Nat)
  | gateMissing
  | gateGetOffset
  | gateGetSel
  | gateGetAttr
  | idtNew
  | idtSetHandler (v addr : Nat)
  | idtLoad
  | mutexNew (m d : Nat)
  | mutexLock (m : Nat)
  | mutexUnlock (m : Nat)
  | mutexRead (m : Nat)
  | mutexWrite (m d : Nat)
  | mutexWriteadd (m d : Nat)
  /-- SEL_BUILD index, ti, rpl. -/
  | selBuild (index : Nat) (ti : TiArg) (rpl : Nat)
  /-- GATE_BUILD addr, kind, dpl. -/
  | gateBuild (addr : Nat) (kind : KindArg) (dpl : Nat)
  /-- IDT_INSTALL vector, addr, kind, dpl. -/
  | idtInstall (v addr : Nat) (kind : KindArg) (dpl : Nat)
  /-- CRITICAL_ADD mutex, k. -/
  | criticalAdd (m k : Nat)
  deriving DecidableEq, Repr

/-- "An assembler rejects an operand that does not fit its field. It does not truncate it" (30_encoding R108). -/
def fits (w n : Nat) : Option (BitVec w) := if n < 2 ^ w then some (BitVec.ofNat w n) else none

/-- The table indicator of an operand. -/
def TiArg.value : TiArg → Option (BitVec 1)
  | .num n => fits 1 n
  | .gdt => some 0
  | .ldt => some 1

/-- The gate kind of an operand: a name, or the number of a valid kind (30_encoding R92, R108). DESIGN CHOICE (log 24): a number
that fits 4 bits and is no valid kind is refused here; R108 does not say so, and 93 U14 allows this or the ILLEGAL of its word. -/
def KindArg.value : KindArg → Option GateKind
  | .num 0x5 => some .task32
  | .num 0x6 => some .int16
  | .num 0x7 => some .trap16
  | .num 0xE => some .int32
  | .num 0xF => some .trap32
  | .num _ => none
  | .name k => some k

/-- A command with one bounded operand. -/
def one (w n : Nat) (k : BitVec w → Instr) : Option Instr := (fits w n).map k

/-- A command with two bounded operands. -/
def two (w n w' n' : Nat) (k : BitVec w → BitVec w' → Instr) : Option Instr :=
  match fits w n, fits w' n' with
  | some x, some y => some (k x y)
  | _, _ => none

/-- The commands of a line, in order; none if an operand is rejected (30_encoding R108, R109). -/
def assemble (l : AsmLine) : Option (List Instr) :=
  match l with
  | .selNew => some [.selNew]
  | .selSetRpl rpl => (one 2 rpl .selSetRpl).map fun i => [i]
  | .selSetTi ti => ti.value.map fun x => [.selSetTi x]
  | .selSetIndex index => (one 13 index .selSetIndex).map fun i => [i]
  | .selGetRpl => some [.selGetRpl]
  | .selGetTi => some [.selGetTi]
  | .selGetIndex => some [.selGetIndex]
  | .attrSetPresent t p => (one 1 p (.attrSetPresent t)).map fun i => [i]
  | .attrSetGateKind t kind => kind.value.map fun k => [.attrSetGateKind t k]
  | .attrSetDpl t dpl => (one 2 dpl (.attrSetDpl t)).map fun i => [i]
  | .attrGetPresent t => some [.attrGetPresent t]
  | .attrGetGateKind t => some [.attrGetGateKind t]
  | .attrGetDpl t => some [.attrGetDpl t]
  | .gateNew addr => (one 32 addr .gateNew).map fun i => [i]
  | .gateMissing => some [.gateMissing]
  | .gateGetOffset => some [.gateGetOffset]
  | .gateGetSel => some [.gateGetSel]
  | .gateGetAttr => some [.gateGetAttr]
  | .idtNew => some [.idtNew]
  | .idtSetHandler v addr => (two 16 v 32 addr .idtSetHandler).map fun i => [i]
  | .idtLoad => some [.idtLoad]
  | .mutexNew m d => (two 8 m 32 d .mutexNew).map fun i => [i]
  | .mutexLock m => (one 8 m .mutexLock).map fun i => [i]
  | .mutexUnlock m => (one 8 m .mutexUnlock).map fun i => [i]
  | .mutexRead m => (one 8 m .mutexRead).map fun i => [i]
  | .mutexWrite m d => (two 8 m 32 d .mutexWrite).map fun i => [i]
  | .mutexWriteadd m d => (two 8 m 32 d .mutexWriteadd).map fun i => [i]
  | .selBuild index ti rpl =>
    match fits 13 index, ti.value, fits 2 rpl with
    | some i, some t, some r => some [.selNew, .selSetIndex i, .selSetTi t, .selSetRpl r]
    | _, _, _ => none
  | .gateBuild addr kind dpl =>
    match fits 32 addr, kind.value, fits 2 dpl with
    | some a, some k, some d => some [.gateNew a, .attrSetGateKind .ge k, .attrSetDpl .ge d, .attrSetPresent .ge 1]
    | _, _, _ => none
  | .idtInstall v addr kind dpl =>
    match fits 16 v, fits 32 addr, kind.value, fits 2 dpl with
    | some v, some a, some k, some d =>
      some [.idtSetHandler v a, .attrSetGateKind .tbl k, .attrSetDpl .tbl d, .attrSetPresent .tbl 1]
    | _, _, _, _ => none
  | .criticalAdd m k =>
    match fits 8 m, fits 32 k with
    | some m, some k => some [.mutexLock m, .mutexRead m, .mutexWriteadd m k, .mutexUnlock m]
    | _, _ => none

/-- A program's commands, in order; none if a line is rejected. -/
def assembleProgram : List AsmLine → Option (List Instr)
  | [] => some []
  | l :: ls =>
    match assemble l, assembleProgram ls with
    | some is, some rest => some (is ++ rest)
    | _, _ => none

/-! ### The characters of a line (30_encoding R108) -/

/-- A blank between the parts of a line (log 21). -/
def isBlank (c : Char) : Bool := c == ' ' || c == '\t'

/-- The characters without blanks at either end. -/
def trimBlanks (s : List Char) : List Char := ((s.dropWhile isBlank).reverse.dropWhile isBlank).reverse

/-- The pieces between separators. -/
def splitAtChar (sep : Char) : List Char → List (List Char)
  | [] => [[]]
  | c :: cs =>
    if c = sep then [] :: splitAtChar sep cs
    else match splitAtChar sep cs with
      | [] => [[c]]
      | w :: ws => (c :: w) :: ws

/-- The value of a digit in a base of 10 or 16 (hexadecimal digits of either case: log 21). -/
def digitValue (base : Nat) (c : Char) : Option Nat :=
  let v :=
    if '0' ≤ c ∧ c ≤ '9' then c.toNat - '0'.toNat
    else if 'a' ≤ c ∧ c ≤ 'f' then c.toNat - 'a'.toNat + 10
    else if 'A' ≤ c ∧ c ≤ 'F' then c.toNat - 'A'.toNat + 10
    else base
  if v < base then some v else none

/-- The number of a list of digits, most significant first, after the value already read. -/
def digitsValue (base acc : Nat) : List Char → Option Nat
  | [] => some acc
  | c :: cs =>
    match digitValue base c with
    | some d => digitsValue base (base * acc + d) cs
    | none => none

/-- A number: decimal, or hexadecimal after `0x` (30_encoding R108). -/
def parseNumber : List Char → Option Nat
  | [] => none
  | ['0', 'x'] => none
  | '0' :: 'x' :: ds => digitsValue 16 0 ds
  | ds => digitsValue 10 0 ds

/-- A mutex: `m<n>` or a number (30_encoding R108). -/
def parseMutex : List Char → Option Nat
  | 'm' :: n => parseNumber n
  | n => parseNumber n

/-- An attribute target: `ge` or `tbl` (30_encoding R108). -/
def parseTarget (s : List Char) : Option Target :=
  match String.ofList s with
  | "ge" => some .ge
  | "tbl" => some .tbl
  | _ => none

/-- A table indicator: `GDT`, `LDT` or a number (30_encoding R108). -/
def parseTi (s : List Char) : Option TiArg :=
  match String.ofList s with
  | "GDT" => some .gdt
  | "LDT" => some .ldt
  | _ => (parseNumber s).map .num

/-- A gate kind: one of the five names, or a number (30_encoding R92, R108). -/
def parseKind (s : List Char) : Option KindArg :=
  match String.ofList s with
  | "TASK32" => some (.name .task32)
  | "INT16" => some (.name .int16)
  | "TRAP16" => some (.name .trap16)
  | "INT32" => some (.name .int32)
  | "TRAP32" => some (.name .trap32)
  | _ => (parseNumber s).map .num

/-- A line's mnemonic and its operands, blanks removed. -/
def splitLine (line : List Char) : List Char × List (List Char) :=
  let body := trimBlanks line
  let rest := trimBlanks (body.dropWhile fun c => !isBlank c)
  (body.takeWhile fun c => !isBlank c, if rest.isEmpty then [] else (splitAtChar ',' rest).map trimBlanks)

/-- Two operands, if both can be read. -/
def both {α β : Type} (x : Option α) (y : Option β) (k : α → β → AsmLine) : Option AsmLine :=
  match x, y with
  | some x, some y => some (k x y)
  | _, _ => none

/-- A line `MNEMONIC operand, operand` (30_encoding R108, R109); none if it is of none of the forms given there. -/
def parseLine (line : List Char) : Option AsmLine :=
  let (mnemonic, operands) := splitLine line
  match String.ofList mnemonic, operands with
  | "SEL_NEW", [] => some .selNew
  | "SEL_SET_RPL", [a] => (parseNumber a).map .selSetRpl
  | "SEL_SET_TI", [a] => (parseTi a).map .selSetTi
  | "SEL_SET_INDEX", [a] => (parseNumber a).map .selSetIndex
  | "SEL_GET_RPL", [] => some .selGetRpl
  | "SEL_GET_TI", [] => some .selGetTi
  | "SEL_GET_INDEX", [] => some .selGetIndex
  | "ATTR_SET_PRESENT", [a, b] => both (parseTarget a) (parseNumber b) .attrSetPresent
  | "ATTR_SET_GATE_KIND", [a, b] => both (parseTarget a) (parseKind b) .attrSetGateKind
  | "ATTR_SET_DPL", [a, b] => both (parseTarget a) (parseNumber b) .attrSetDpl
  | "ATTR_GET_PRESENT", [a] => (parseTarget a).map .attrGetPresent
  | "ATTR_GET_GATE_KIND", [a] => (parseTarget a).map .attrGetGateKind
  | "ATTR_GET_DPL", [a] => (parseTarget a).map .attrGetDpl
  | "GATE_NEW", [a] => (parseNumber a).map .gateNew
  | "GATE_MISSING", [] => some .gateMissing
  | "GATE_GET_OFFSET", [] => some .gateGetOffset
  | "GATE_GET_SEL", [] => some .gateGetSel
  | "GATE_GET_ATTR", [] => some .gateGetAttr
  | "IDT_NEW", [] => some .idtNew
  | "IDT_SET_HANDLER", [a, b] => both (parseNumber a) (parseNumber b) .idtSetHandler
  | "IDT_LOAD", [] => some .idtLoad
  | "MUTEX_NEW", [a, b] => both (parseMutex a) (parseNumber b) .mutexNew
  | "MUTEX_LOCK", [a] => (parseMutex a).map .mutexLock
  | "MUTEX_UNLOCK", [a] => (parseMutex a).map .mutexUnlock
  | "MUTEX_READ", [a] => (parseMutex a).map .mutexRead
  | "MUTEX_WRITE", [a, b] => both (parseMutex a) (parseNumber b) .mutexWrite
  | "MUTEX_WRITEADD", [a, b] => both (parseMutex a) (parseNumber b) .mutexWriteadd
  | "SEL_BUILD", [a, b, c] =>
    match parseNumber a, parseTi b, parseNumber c with
    | some index, some ti, some rpl => some (.selBuild index ti rpl)
    | _, _, _ => none
  | "GATE_BUILD", [a, b, c] =>
    match parseNumber a, parseKind b, parseNumber c with
    | some addr, some kind, some dpl => some (.gateBuild addr kind dpl)
    | _, _, _ => none
  | "IDT_INSTALL", [a, b, c, d] =>
    match parseNumber a, parseNumber b, parseKind c, parseNumber d with
    | some v, some addr, some kind, some dpl => some (.idtInstall v addr kind dpl)
    | _, _, _, _ => none
  | "CRITICAL_ADD", [a, b] => both (parseMutex a) (parseNumber b) .criticalAdd
  | _, _ => none

/-- The commands of a text, one line of it a command or a pseudo-instruction; lines of blanks alone are passed over (log 21). -/
def assembleText (text : String) : Option (List Instr) :=
  match (((splitAtChar '\n' text.toList).filter fun l => !(trimBlanks l).isEmpty).mapM parseLine) with
  | some lines => assembleProgram lines
  | none => none

end Sys2Proof.Machine
end

