-- ==== Sys2Proof/Safety.lean ====
section
/-! DEFINITION. The terms claims are stated in: what a command leaves unchanged, the invariant of the block, its transition
relation, the outcomes of a run (70_reset R284), fairness (R283) and what the host observes (10_state R42). -/

namespace Sys2Proof.Machine

/-! ### Frames -/

/-- The context whose command is executed is one of the block's. -/
abbrev State.curOk (s : State) : Prop := s.cur < s.ctxs.length

/-- The table, IDTR, the environment's and the scheduler's state, FAULT and REFUSED are unchanged, and so are the parameters. -/
structure SameBlock (s t : State) : Prop where
  params : t.params = s.params
  phase : t.phase = s.phase
  idtr : t.idtr = s.idtr
  fault : t.fault = s.fault
  refused : t.refused = s.refused
  ie : t.ie = s.ie
  active : t.active = s.active
  cur : t.cur = s.cur
  plan : t.plan = s.plan
  tick : t.tick = s.tick

/-- Every byte of memory reads as before. -/
def SameMemory (s t : State) : Prop := ∀ a, Memory.read t.mem a = Memory.read s.mem a

/-- Every mutex is unchanged. -/
def SameMutexes (s t : State) : Prop := t.mutexes.length = s.mutexes.length ∧ ∀ m, t.mutex m = s.mutex m

/-- The registers of every context but c are unchanged. -/
def SameOthers (s t : State) (c : Nat) : Prop := t.ctxs.length = s.ctxs.length ∧ ∀ c', c' ≠ c → t.ctx c' = s.ctx c'

/-- A command that wrote registers of its own context and nothing else. -/
structure OnlyOwnRegisters (s t : State) : Prop where
  block : SameBlock s t
  memory : SameMemory s t
  mutexes : SameMutexes s t
  others : SameOthers s t s.cur
  hist : t.hist = s.hist

/-- A completed command that left the registers k in its own context, with PC[c] one further, and wrote nothing else. -/
def WritesOwn (s t : State) (k : Ctx) : Prop := t.me = { k with pc := s.me.pc + 1 } ∧ OnlyOwnRegisters s t

/-- A completed command that left the registers k in its own context, with PC[c] one further, and wrote mutex m besides, leaving
it as x. -/
structure WritesMutex (s t : State) (k : Ctx) (m : Nat) (x : Mutex) : Prop where
  me : t.me = { k with pc := s.me.pc + 1 }
  mutex : t.mutex m = x
  mutexes : t.mutexes.length = s.mutexes.length ∧ ∀ m', m' ≠ m → t.mutex m' = s.mutex m'
  block : SameBlock s t
  memory : SameMemory s t
  others : SameOthers s t s.cur

/-- The target byte can be read, and holds a (41_attribute R150). -/
def AttrHolds (s : State) (t : Target) (a : Byte) : Prop :=
  match t with
  | .ge => ∃ e, s.me.ge = some e ∧ gateAttr e = a
  | .tbl => ∃ v, s.me.handle = some v ∧ v < s.params.nVectors ∧ Memory.read s.mem (attrAddr s.params v) = a

/-- A completed attribute setter: the target byte holds b, PC[c] is one further, and nothing else is written (41_attribute R150
to R153). With t = 0 the other fields of GE[c] stay. With t = 1 exactly one byte of TR is written. -/
def AttrWritten (s u : State) (t : Target) (b : Byte) : Prop :=
  match t with
  | .ge => ∃ e e', s.me.ge = some e ∧ WritesOwn s u { s.me with ge := some e' } ∧ gateAttr e' = b ∧
      gateOffset e' = gateOffset e ∧ gateSel e' = gateSel e ∧ gateReserved e' = gateReserved e
  | .tbl => ∃ v, s.me.handle = some v ∧ u.me = { s.me with pc := s.me.pc + 1 } ∧
      Memory.read u.mem (attrAddr s.params v) = b ∧
      (∀ a, a ≠ attrAddr s.params v → Memory.read u.mem a = Memory.read s.mem a) ∧
      SameBlock s u ∧ SameMutexes s u ∧ SameOthers s u s.cur ∧
      u.hist = s.hist ++ [.tableWrite (attrAddr s.params v) 1 b.toNat]

/-- What a raised fault leaves: FAULT holds the record, and nothing else is written (60_exceptions R251). -/
def RaisedBy (s t : State) (code : FaultCode) (info : BitVec 32) : Prop :=
  t = { s with fault := some ⟨code, none, .ctx s.cur, some s.me.pc, s.fetch s.cur, info⟩ }

/-- The command raises the fault. -/
def Raises (i : Instr) (s : State) (code : FaultCode) (info : BitVec 32) : Prop :=
  ∃ t, exec i s = .next t ∧ RaisedBy s t code info

/-- What a failed dispatch leaves (60_exceptions R251, R256; the event of 10_state R39: log 10). -/
def DispatchFails (r : Request) (s : State) (sub : DispatchSub) : Prop :=
  takeMove (.request r) s =
    .next { s with
      fault := some ⟨.dispatch, some sub, .disp, none, none, BitVec.ofNat 32 r.vector⟩
      hist := s.hist ++ [.dispatchFailed r.vector r.source sub] }

/-- The request passes every test of the dispatch lookup on an entry with these bytes: vector in range, present, valid kind, and
callable if it is SOFTWARE (60_exceptions R256). -/
structure Deliverable (s : State) (r : Request) (byte : Nat → Byte) : Prop where
  loaded : s.phase = .loaded
  inRange : r.vector < s.params.nVectors
  bytes : ∀ k, byte k = Memory.read s.mem (s.params.tbase.toNat + 8 * r.vector + k)
  present : (byte 5).extractLsb' 7 1 = 1
  kind : (byte 5).extractLsb' 0 4 ∈ [0x5#4, 0x6#4, 0x7#4, 0xE#4, 0xF#4]
  callable : ∀ cpl, r.source = .software cpl → cpl.toNat ≤ ((byte 5).extractLsb' 5 2).toNat

/-- `DELIVER(v, src, offset, selector, attr)` of an entry with these bytes (60_exceptions R256, 30_encoding R93). -/
def deliverEvent (r : Request) (byte : Nat → Byte) : Event :=
  .deliver r.vector r.source (byte 7 ++ byte 6 ++ byte 1 ++ byte 0) (byte 3 ++ byte 2) (byte 5)

/-- Commands one after another, as one context issues them. -/
def runAll : List Instr → State → Result
  | [], s => .next s
  | i :: is, s =>
    match exec i s with
    | .next t => runAll is t
    | .fault x => .fault x
    | .refused x => .refused x

/-- Every word with this opcode decodes to the given command if its must-be-zero bits are zero, and is illegal otherwise
(30_encoding R103, R105). -/
def WordRule (op : Nat) (zero : Word → Bool) (i : Word → Instr) : Prop :=
  ∀ n w, opcodeField w = op → decode n w = if zero w then .ok (i w) else .error .noRow

/-- The same for the formats M and MD, where m >= N_MUTEX is illegal too (30_encoding R105(c)). -/
def MutexWordRule (op : Nat) (zero : Word → Bool) (i : Word → Instr) : Prop :=
  ∀ n w, opcodeField w = op → decode n w =
    if zero w then (if (w.extractLsb' 48 8).toNat < n then .ok (i w) else .error .mutexRange) else .error .noRow

/-! ### The invariant of the block -/

/-- One register file per context, one record per mutex. -/
abbrev State.ShapeOk (s : State) : Prop := s.ctxs.length = s.params.nCtx ∧ s.mutexes.length = s.params.nMutex

/-- MEM is in canonical form and lists only bytes of TR (20_memory R61). -/
abbrev State.MemoryOk (s : State) : Prop :=
  Memory.wf s.mem ∧ ∀ x ∈ s.mem, s.params.tbase.toNat ≤ x.1 ∧ x.1 < s.params.tbase.toNat + s.params.tableBytes

/-- PC[c] indexes PROG[c]; a RUNNING context has a command to fetch; IDLE and DONE contexts stand where R23 leaves them; a
handle names an entry, and only while the table is POPULATED (10_state R22, R23, R27; 41_attribute R150). -/
abbrev State.ContextOk (s : State) (c : Nat) : Prop :=
  (s.ctx c).pc ≤ (s.prog c).length ∧
  ((s.ctx c).status = .running → (s.ctx c).pc < (s.prog c).length) ∧
  ((s.ctx c).status = .idle → (s.ctx c).pc = 0 ∧ s.params.sched = .nested ∧ c ≠ 0) ∧
  ((s.ctx c).status = .done → (s.ctx c).pc = (s.prog c).length ∧ (s.params.sched = .nested → c = 0)) ∧
  (∀ v ∈ (s.ctx c).handle, v < s.params.nVectors ∧ s.phase = .populated)

/-- Every context is as `ContextOk` says. -/
abbrev State.ContextsOk (s : State) : Prop := ∀ c < s.params.nCtx, s.ContextOk c

/-- FLAG[m] = 1 if and only if HOLDER[m] ≠ ⊥ (10_state R33), and the holder is a RUNNING context. -/
abbrev State.GuardOk (s : State) (m : Nat) : Prop :=
  ((s.mutex m).flag = true ↔ (s.mutex m).holder ≠ none) ∧
  ∀ c ∈ (s.mutex m).holder, c < s.params.nCtx ∧ (s.ctx c).status = .running

/-- Every mutex is as `GuardOk` says. -/
abbrev State.GuardsOk (s : State) : Prop := ∀ m < s.params.nMutex, s.GuardOk m

/-- IDTR is written by the load and by nothing else (43_idt R192, R195); IE is set only while PHASE = LOADED (60_exceptions
R259). -/
abbrev State.IdtrOk (s : State) : Prop :=
  (s.phase = .loaded → s.idtr = some ⟨BitVec.ofNat 16 (s.params.tableBytes - 1), s.params.tbase⟩) ∧
  (s.phase ≠ .loaded → s.idtr = none) ∧
  (s.ie = true → s.phase = .loaded)

/-- ACTIVE holds the RUNNING contexts, once each, with context 0 at its bottom; it is empty under INTERLEAVED (10_state R38). -/
abbrev State.ActiveOk (s : State) : Prop :=
  (s.params.sched = .interleaved → s.active = []) ∧
  (s.params.sched = .nested →
    s.active.Nodup ∧ (∀ c ∈ s.active, c < s.params.nCtx) ∧
    (∀ c < s.params.nCtx, (c ∈ s.active ↔ (s.ctx c).status = .running)) ∧
    (s.active = [] ∨ s.active.head? = some 0))

/-- UNBUILT means all entries missing (10_state R29); byte 4 of every entry the block forms is 0 (42_gate_entry R175) and so is
bit 4 of every attribute byte (41_attribute R157), in TR and in GE. -/
abbrev State.EntriesOk (s : State) : Prop :=
  (s.phase = .unbuilt → s.mem = []) ∧
  (∀ v < s.params.nVectors, Memory.read s.mem (entryAddr s.params v + 4) = 0 ∧
    attrBit4 (Memory.read s.mem (attrAddr s.params v)) = 0) ∧
  (∀ c < s.params.nCtx, ∀ e ∈ (s.ctx c).ge, gateReserved e = 0 ∧ attrBit4 (gateAttr e) = 0)

/-- The invariant of the block: it holds after every launch, and every step keeps it. -/
structure State.Inv (s : State) : Prop where
  config : s.params.wf = true
  shape : s.ShapeOk
  memory : s.MemoryOk
  contexts : s.ContextsOk
  guards : s.GuardsOk
  idtr : s.IdtrOk
  active : s.ActiveOk
  entries : s.EntriesOk

/-! ### Runs and their outcomes (70_reset R283, R284) -/

/-- "No step happens while FAULT ≠ none or REFUSED = 1", and none after COMPLETED (70_reset R283, R284). -/
def State.halted (s : State) : Bool := s.fault.isSome || s.refused || s.completed

/-- The block may take the step m from s to t (70_reset R283). The relation leaves the choice of m open: `step` takes one of its
steps. -/
def Trans (m : Move) (s t : State) : Prop :=
  s.halted = false ∧ s.possible m = true ∧ takeMove m s.consumeChoice = .next t

/-- A run that never ends: states and the steps between them. -/
structure InfiniteRun (s : State) (states : Nat → State) (moves : Nat → Move) : Prop where
  start : states 0 = s
  trans : ∀ n, Trans (moves n) (states n) (states (n + 1))

/-- Weak fairness of the schedule, for contexts only: a context that stays eligible from some step on takes infinitely many steps
(70_reset R283, log 19). -/
def WeaklyFair (states : Nat → State) (moves : Nat → Move) : Prop :=
  ∀ c n, (∀ k, n ≤ k → (states k).eligible c = true) → ∀ n', ∃ k, n' ≤ k ∧ moves k = .ctx c

/-- DIVERGES: some weakly fair run from s is infinite (70_reset R284). -/
def State.Diverges (s : State) : Prop :=
  ∃ states moves, InfiniteRun s states moves ∧ WeaklyFair states moves

/-- The outcomes of a run that ends (70_reset R284). -/
inductive RunOutcome where
  | completed
  | faulted
  | refused
  deriving DecidableEq, Repr

/-- The outcome in this state, none while the run goes on (70_reset R284). -/
def State.outcome (s : State) : Option RunOutcome :=
  if s.refused then some .refused
  else if s.fault.isSome then some .faulted
  else if s.completed then some .completed
  else none

/-- What the host reads of one context (10_state R42). -/
structure CtxObservation where
  sel : Option Selector
  ge : Option GateEntry
  res : Option Payload
  handle : Option Nat
  deriving DecidableEq, Repr

/-- What the host reads at the end of a run (10_state R42). -/
structure Observation where
  table : List Byte
  phase : Phase
  idtr : Option Idtr
  mutexes : List Mutex
  contexts : List CtxObservation
  fault : Option FaultRecord
  refused : Bool
  hist : List Event
  deriving DecidableEq, Repr

/-- The bytes of TR, in address order. -/
def State.tableContents (s : State) : List Byte :=
  (List.range s.params.tableBytes).map fun k => Memory.read s.mem (s.params.tbase.toNat + k)

/-- The observation at the end of a run (10_state R42): nothing while the run goes on, and nothing of a REFUSED run (70_reset
R284). -/
def State.observe (s : State) : Option Observation :=
  match s.outcome with
  | none => none
  | some .refused => none
  | some _ => some
    { table := s.tableContents, phase := s.phase, idtr := s.idtr, mutexes := s.mutexes
      contexts := s.ctxs.map fun k => ⟨k.sel, k.ge, k.res, k.handle⟩
      fault := s.fault, refused := s.refused, hist := s.hist }

/-! ### Terms of the spinlock claims -/

/-- Context c stands at the command i: it is RUNNING, and the word at PC[c] decodes to i. -/
def State.standsAt (s : State) (c : Nat) (i : Instr) : Prop :=
  (s.ctx c).status = .running ∧ ∃ w, s.fetch c = some w ∧ decode s.params.nMutex w = .ok i

/-- Context c holds mutex m and stands at MUTEX_LOCK m (44_spinlock R229). -/
def State.relocking (s : State) (c : Nat) (m : BitVec 8) : Prop :=
  (s.mutex m.toNat).flag = true ∧ (s.mutex m.toNat).holder = some c ∧ s.standsAt c (.mutexLock m)

/-- Under NESTED, context a holds m, and above it on ACTIVE stands context h at MUTEX_LOCK m (44_spinlock R230). -/
def State.handlerDeadlock (s : State) (a h : Nat) (m : BitVec 8) : Prop :=
  s.params.sched = .nested ∧ (s.mutex m.toNat).flag = true ∧ (s.mutex m.toNat).holder = some a ∧
    s.standsAt h (.mutexLock m) ∧ ∃ below mid above, s.active = below ++ a :: mid ++ h :: above

/-- The words of CRITICAL_ADD m, 1 (30_encoding R109). -/
def criticalAddWords (m : BitVec 8) : List Word :=
  [encode (.mutexLock m), encode (.mutexRead m), encode (.mutexWriteadd m 1), encode (.mutexUnlock m)]

/-- Every context runs CRITICAL_ADD m, 1, context c of them k_c times, under INTERLEAVED (44_spinlock R231). -/
def contention (p : Params) (m : BitVec 8) (ks : List Nat) : Prop :=
  p.sched = .interleaved ∧ p.contexts.map CtxParams.prog = ks.map fun k => (List.replicate k (criticalAddWords m)).flatten

/-- t is reached from s by steps of the machine. -/
inductive Reaches (s : State) : State → Prop where
  | refl : Reaches s s
  | step {t u : State} {m : Move} : Reaches s t → Trans m t u → Reaches s u

end Sys2Proof.Machine
end

