-- ==== Sys2Proof/Certificates/Slice0/Obligations.lean ====
section
/-! DEFINITION. The statements about the block, from the numbered rules of the spec. Each is about every state, hence about every
configuration. -/

open Sys2Proof Sys2Proof.Machine

/-! ### Encoding -/

/-- Words written out from the encodings of 30_encoding R104 and the rules of 40 to 44 decode to their commands; words that
95_test_vectors 2.1 lists are illegal. -/
def Obligations.SpecWordsDecode : Prop :=
  decode 1 0x1000000000000000 = .ok .selNew ∧
  decode 1 0x1300000000001FFF = .ok (.selSetIndex 8191) ∧
  decode 1 0x2201000000000003 = .ok (.attrSetDpl .tbl 3) ∧
  decode 1 0x210000000000000E = .ok (.attrSetGateKind .ge .int32) ∧
  decode 1 0x30000000AABBCCDD = .ok (.gateNew 0xAABBCCDD) ∧
  decode 1 0x4100000300101234 = .ok (.idtSetHandler 3 0x00101234) ∧
  decode 1 0x5500000000000001 = .ok (.mutexWriteadd 0 1) ∧
  decode 1 0x0000000000000000 = .error .noRow ∧
  decode 1 0x2100000000000000 = .error .badKind ∧
  decode 1 0x5101000000000000 = .error .mutexRange

/-- Decoding the word of a well-formed command gives the command, with every operand at every value (30_encoding R102, R106). -/
def Obligations.DecodeEncodeGivesTheCommand : Prop :=
  ∀ n i, i.wf n = true → decode n (encode i) = .ok i

/-- Every word that decodes is the word of its command, and the command is well formed: each legal word has one meaning
(30_encoding R104 to R106). -/
def Obligations.EncodeDecodeGivesTheWord : Prop :=
  ∀ n w i, decode n w = .ok i → encode i = w ∧ i.wf n = true

/-- A word is legal exactly when a row of the opcode map selects it, its kind is a valid one if the row is ATTR_SET_GATE_KIND, and
its mutex number is below N_MUTEX if the row is of format M or MD; and at most one row selects a word (30_encoding R105, R106). -/
def Obligations.LegalWordsAreTheTableRows : Prop :=
  (∀ n w, (∃ i, decode n w = .ok i) ↔
    ∃ r ∈ opcodeTable, w &&& r.mask = r.pat ∧
      (r = Row.attrSetGateKind → w.extractLsb' 0 4 ∈ [0x5#4, 0x6#4, 0x7#4, 0xE#4, 0xF#4]) ∧
      (r ∈ [Row.mutexNew, Row.mutexLock, Row.mutexUnlock, Row.mutexRead, Row.mutexWrite, Row.mutexWriteadd] →
        (w.extractLsb' 48 8).toNat < n)) ∧
  (∀ w, ∀ r ∈ opcodeTable, ∀ r' ∈ opcodeTable, r.selects w = true → r'.selects w = true → r = r')

/-! ### The step -/

/-- When the schedule's next step is a command of context c and the word at PC[c] decodes to i, the step is exec of i by context
c, then the end of the context if PC[c] has reached the end of its list (10_state R22, R23; the choice of the step: log 4). -/
def Obligations.StepRunsTheDecodedCommand : Prop :=
  ∀ s c w i, s.halted = false → s.nextMove = some (.ctx c) → s.fetch c = some w → decode s.params.nMutex w = .ok i →
    step s = onNext (exec i (s.consumeChoice.focus c)) fun t => t.endIfFinished c

/-- An illegal word raises ILLEGAL with info 0 when executed, whatever its other defects, and writes nothing else
(30_encoding R105; 60_exceptions R250, R251, R253). -/
def Obligations.IllegalWordRaisesIllegal : Prop :=
  ∀ s c w x, s.fetch c = some w → decode s.params.nMutex w = .error x →
    takeMove (.ctx c) s =
      .next { s with cur := c, fault := some ⟨.illegal, none, .ctx c, some (s.ctx c).pc, some w, 0⟩ }

/-- No step happens while FAULT ≠ none or REFUSED = 1, nor after COMPLETED (60_exceptions R251, 10_state R35, 70_reset R283,
R284). How a step that does not happen answers is the model's choice (log 6, 7, 8). -/
def Obligations.HaltedBlockTakesNoStep : Prop :=
  ∀ s,
    (∀ r, s.fault = some r → step s = .fault (.faulted r)) ∧
    (s.fault = none → s.refused = true → step s = .refused .reentered) ∧
    (s.completed = true → step s = .fault .completed)

/-- Every step of the machine is one of the possible steps of 70_reset R283; and each possible step is the one taken when the
schedule's next choice is that step. -/
def Obligations.StepsAreThePossibleOnes : Prop :=
  (∀ s t, step s = .next t → ∃ m, Trans m s t) ∧
  (∀ (s : State) (m : Move) (rest : List Move), s.halted = false → s.possible m = true →
    step { s with plan := m :: rest } = takeMove m { s with plan := rest, tick := s.tick + 1 })

/-- A run ends in at most one of the outcomes REFUSED, FAULTED and COMPLETED. An outcome means that no further step happens; and
under the invariant, no outcome means that some step does. The host reads the final state of a COMPLETED or FAULTED run, and
nothing of a REFUSED one (70_reset R283, R284; 10_state R42). -/
def Obligations.RunsEndInOneOutcome : Prop :=
  ∀ s : State,
    (s.outcome = none ↔ s.halted = false) ∧
    (s.outcome ≠ none → ∀ m t, ¬ Trans m s t) ∧
    (s.Inv → s.outcome = none → ∃ m t, Trans m s t) ∧
    (s.outcome = some .refused ↔ s.refused = true) ∧
    (s.outcome = some .faulted ↔ s.refused = false ∧ s.fault ≠ none) ∧
    (s.outcome = some .completed ↔ s.completed = true) ∧
    (s.observe = none ↔ s.outcome = none ∨ s.refused = true)

/-- Which steps are possible (70_reset R283, 60_exceptions R255, R259): a command of a RUNNING context (under NESTED, of the top
of ACTIVE), a request of REQ with a vector of VEC_BITS bits (an EXTERNAL one only while IE = 1), a change of IE while
PHASE = LOADED. The IE step writes IE and nothing else. -/
def Obligations.PossibleStepsOfEachAgent : Prop :=
  ∀ s : State,
    (∀ c, s.params.sched = .interleaved →
      (s.possible (.ctx c) = true ↔ c < s.ctxs.length ∧ (s.ctx c).status = .running)) ∧
    (∀ c, s.params.sched = .nested →
      (s.possible (.ctx c) = true ↔ (∃ below, s.active = below ++ [c]) ∧ (s.ctx c).status = .running)) ∧
    (∀ r, s.possible (.request r) = true ↔
      r.vector < 2 ^ s.params.vecBits ∧ (∀ rs, s.params.req = .only rs → r ∈ rs) ∧ (r.source = .external → s.ie = true)) ∧
    (∀ b, s.possible (.setIE b) = true ↔ s.phase = .loaded) ∧
    (∀ b, takeMove (.setIE b) s = .next { s with ie := b })

/-- The state after reset (70_reset R280). -/
def Obligations.ResetGivesTheSpecValues : Prop :=
  ∀ p : Params,
    (∀ c < p.nCtx, (State.resetOf p).ctx c = ⟨0,
      if p.sched = .interleaved ∨ c = 0 then (if p.prog c = [] then .done else .running) else .idle,
      none, none, none, none⟩) ∧
    (∀ c, (State.resetOf p).cpl c = p.cpl c) ∧
    (∀ a, p.tbase.toNat ≤ a → a < p.tbase.toNat + 8 * p.nVectors → Memory.read (State.resetOf p).mem a = 0x00) ∧
    (State.resetOf p).phase = .unbuilt ∧
    (State.resetOf p).idtr = none ∧ (State.resetOf p).idtrValid = false ∧
    (∀ m < p.nMutex, ∀ x, p.mutexInit[m]? = some x → (State.resetOf p).mutex m = ⟨false, x, none⟩) ∧
    (State.resetOf p).fault = none ∧ (State.resetOf p).refused = false ∧ (State.resetOf p).ie = false ∧
    (p.sched = .nested → (State.resetOf p).active = if p.prog 0 = [] then [] else [0]) ∧
    (State.resetOf p).hist = []

/-! ### Selector commands (40_selector) -/

/-- SEL_NEW (40_selector R130): its word, SEL[c] <- 0x0000 whatever it held, PC[c] + 1, and nothing else. -/
def Obligations.SelNewStartsASelector : Prop :=
  WordRule 0x10 (fun w => w.extractLsb' 0 56 == 0) (fun _ => .selNew) ∧
  ∀ s : State, s.curOk →
    ∃ t, exec .selNew s = .next t ∧ WritesOwn s t { s.me with sel := some 0x0000 }

/-- SEL_SET_RPL, SEL_SET_TI and SEL_SET_INDEX (40_selector R131, R132, R133): their words; the new SEL[c] is the pseudocode's
value, its named field holds the operand and the two others stay; UNINIT if SEL[c] = ⊥. -/
def Obligations.SelSettersWriteTheirField : Prop :=
  WordRule 0x11 (fun w => w.extractLsb' 2 54 == 0) (fun w => .selSetRpl (w.extractLsb' 0 2)) ∧
  WordRule 0x12 (fun w => w.extractLsb' 1 55 == 0) (fun w => .selSetTi (w.extractLsb' 0 1)) ∧
  WordRule 0x13 (fun w => w.extractLsb' 13 43 == 0) (fun w => .selSetIndex (w.extractLsb' 0 13)) ∧
  (∀ s : State, s.curOk → ∀ x, s.me.sel = some x →
    (∀ rpl : BitVec 2, ∃ t, exec (.selSetRpl rpl) s = .next t ∧ ∃ y : Selector,
      WritesOwn s t { s.me with sel := some y } ∧ y = ((x &&& 0xFFFC) ||| rpl.setWidth 16) ∧
      selRpl y = rpl ∧ selTi y = selTi x ∧ selIndex y = selIndex x) ∧
    (∀ ti : BitVec 1, ∃ t, exec (.selSetTi ti) s = .next t ∧ ∃ y : Selector,
      WritesOwn s t { s.me with sel := some y } ∧ y = ((x &&& 0xFFFB) ||| (ti.setWidth 16 <<< 2)) ∧
      selTi y = ti ∧ selRpl y = selRpl x ∧ selIndex y = selIndex x) ∧
    (∀ index : BitVec 13, ∃ t, exec (.selSetIndex index) s = .next t ∧ ∃ y : Selector,
      WritesOwn s t { s.me with sel := some y } ∧ y = ((x &&& 0x0007) ||| (index.setWidth 16 <<< 3)) ∧
      selIndex y = index ∧ selRpl y = selRpl x ∧ selTi y = selTi x)) ∧
  (∀ s : State, s.me.sel = none →
    (∀ rpl, Raises (.selSetRpl rpl) s .uninit 0) ∧ (∀ ti, Raises (.selSetTi ti) s .uninit 0) ∧
    (∀ index, Raises (.selSetIndex index) s .uninit 0))

/-- SEL_GET_RPL, SEL_GET_TI and SEL_GET_INDEX (40_selector R134, R135, R136): their words; RES[c] gets the field of
SEL[c] = INDEX*8 + TI*4 + RPL, zero-extended, and SEL[c] stays; UNINIT if SEL[c] = ⊥. -/
def Obligations.SelGettersExtractFields : Prop :=
  WordRule 0x14 (fun w => w.extractLsb' 0 56 == 0) (fun _ => .selGetRpl) ∧
  WordRule 0x15 (fun w => w.extractLsb' 0 56 == 0) (fun _ => .selGetTi) ∧
  WordRule 0x16 (fun w => w.extractLsb' 0 56 == 0) (fun _ => .selGetIndex) ∧
  (∀ s : State, s.curOk → ∀ x, s.me.sel = some x →
    (∃ t, exec .selGetRpl s = .next t ∧ WritesOwn s t { s.me with res := some (BitVec.ofNat 32 (x.toNat % 4)) }) ∧
    (∃ t, exec .selGetTi s = .next t ∧ WritesOwn s t { s.me with res := some (BitVec.ofNat 32 (x.toNat / 4 % 2)) }) ∧
    (∃ t, exec .selGetIndex s = .next t ∧ WritesOwn s t { s.me with res := some (BitVec.ofNat 32 (x.toNat / 8)) })) ∧
  (∀ s : State, s.me.sel = none →
    Raises .selGetRpl s .uninit 0 ∧ Raises .selGetTi s .uninit 0 ∧ Raises .selGetIndex s .uninit 0)

/-- The round-trip law of the selector (40_selector R138, 30_encoding R90): SEL_NEW, then the three setters in any order, leave
SEL[c] = i*8 + t*4 + p; the getters give p, t and i back; and the encoding is a bijection of the triples and the 16-bit values. -/
def Obligations.SelectorRoundTrip : Prop :=
  (∀ (s : State) (p : BitVec 2) (t : BitVec 1) (i : BitVec 13) (l : List Instr),
    s.curOk → l.Perm [.selSetRpl p, .selSetTi t, .selSetIndex i] →
    ∃ u x, runAll (.selNew :: l) s = .next u ∧ u.me.sel = some x ∧ x.toNat = i.toNat * 8 + t.toNat * 4 + p.toNat ∧
      (∃ u', exec .selGetRpl u = .next u' ∧ u'.me.res = some (p.setWidth 32)) ∧
      (∃ u', exec .selGetTi u = .next u' ∧ u'.me.res = some (t.setWidth 32)) ∧
      (∃ u', exec .selGetIndex u = .next u' ∧ u'.me.res = some (i.setWidth 32))) ∧
  (∀ x : Selector, x.toNat = (selIndex x).toNat * 8 + (selTi x).toNat * 4 + (selRpl x).toNat) ∧
  (∀ x y : Selector, selIndex x = selIndex y → selTi x = selTi y → selRpl x = selRpl y → x = y)

/-! ### Attribute-byte commands (41_attribute) -/

/-- ATTR_SET_PRESENT, ATTR_SET_GATE_KIND and ATTR_SET_DPL on either target (41_attribute R151, R152, R153, R157): their words; the
named field of the target byte holds the operand, every other bit of it stays, and nothing else is written. -/
def Obligations.AttrSettersWriteTheirField : Prop :=
  WordRule 0x20 (fun w => w.extractLsb' 49 7 == 0 && w.extractLsb' 1 47 == 0)
    (fun w => .attrSetPresent (if w.extractLsb' 48 1 = 1 then .tbl else .ge) (w.extractLsb' 0 1)) ∧
  (∀ n w, opcodeField w = 0x21 → ∀ i, decode n w = .ok i ↔
    w.extractLsb' 49 7 = 0 ∧ w.extractLsb' 4 44 = 0 ∧ ∃ kind : GateKind, w.extractLsb' 0 4 = kind.bits ∧
      i = .attrSetGateKind (if w.extractLsb' 48 1 = 1 then .tbl else .ge) kind) ∧
  WordRule 0x22 (fun w => w.extractLsb' 49 7 == 0 && w.extractLsb' 2 46 == 0)
    (fun w => .attrSetDpl (if w.extractLsb' 48 1 = 1 then .tbl else .ge) (w.extractLsb' 0 2)) ∧
  (∀ (s : State) (t : Target) (a : Byte), s.curOk → Memory.wf s.mem → AttrHolds s t a → (t = .tbl → s.phase ≠ .loaded) →
    (∀ p : BitVec 1, ∃ u, exec (.attrSetPresent t p) s = .next u ∧ ∃ b : Byte, AttrWritten s u t b ∧
      b = ((a &&& 0x7F) ||| (p.setWidth 8 <<< 7)) ∧
      attrPresent b = p ∧ attrDpl b = attrDpl a ∧ attrBit4 b = attrBit4 a ∧ attrKind b = attrKind a) ∧
    (∀ kind : GateKind, ∃ u, exec (.attrSetGateKind t kind) s = .next u ∧ ∃ b : Byte, AttrWritten s u t b ∧
      b = ((a &&& 0xF0) ||| kind.bits.setWidth 8) ∧
      attrKind b = kind.bits ∧ attrPresent b = attrPresent a ∧ attrDpl b = attrDpl a ∧ attrBit4 b = attrBit4 a) ∧
    (∀ dpl : BitVec 2, ∃ u, exec (.attrSetDpl t dpl) s = .next u ∧ ∃ b : Byte, AttrWritten s u t b ∧
      b = ((a &&& 0x9F) ||| (dpl.setWidth 8 <<< 5)) ∧
      attrDpl b = dpl ∧ attrPresent b = attrPresent a ∧ attrBit4 b = attrBit4 a ∧ attrKind b = attrKind a))

/-- ATTR_GET_PRESENT, ATTR_GET_GATE_KIND and ATTR_GET_DPL on either target (41_attribute R154, R155, R156): their words; RES[c]
gets the field of the target byte, zero-extended, and nothing else is written. -/
def Obligations.AttrGettersExtractFields : Prop :=
  WordRule 0x23 (fun w => w.extractLsb' 49 7 == 0 && w.extractLsb' 0 48 == 0)
    (fun w => .attrGetPresent (if w.extractLsb' 48 1 = 1 then .tbl else .ge)) ∧
  WordRule 0x24 (fun w => w.extractLsb' 49 7 == 0 && w.extractLsb' 0 48 == 0)
    (fun w => .attrGetGateKind (if w.extractLsb' 48 1 = 1 then .tbl else .ge)) ∧
  WordRule 0x25 (fun w => w.extractLsb' 49 7 == 0 && w.extractLsb' 0 48 == 0)
    (fun w => .attrGetDpl (if w.extractLsb' 48 1 = 1 then .tbl else .ge)) ∧
  (∀ (s : State) (t : Target) (a : Byte), s.curOk → AttrHolds s t a →
    (∃ u, exec (.attrGetPresent t) s = .next u ∧
      WritesOwn s u { s.me with res := some (BitVec.ofNat 32 (a.toNat / 128)) }) ∧
    (∃ u, exec (.attrGetGateKind t) s = .next u ∧
      WritesOwn s u { s.me with res := some (BitVec.ofNat 32 (a.toNat % 16)) }) ∧
    (∃ u, exec (.attrGetDpl t) s = .next u ∧
      WritesOwn s u { s.me with res := some (BitVec.ofNat 32 (a.toNat / 32 % 4)) }))

/-- The faults of the attribute commands, in their order (41_attribute R150, 60_exceptions R253): UNINIT with t = 0 and GE[c] = ⊥;
with t = 1, TABLE_LOCKED for a setter while PHASE = LOADED, then NO_HANDLE if HANDLE[c] = ⊥. A getter does not test PHASE. -/
def Obligations.AttrFaultsInOrder : Prop :=
  ∀ s : State,
    (s.me.ge = none →
      (∀ p, Raises (.attrSetPresent .ge p) s .uninit 0) ∧ (∀ k, Raises (.attrSetGateKind .ge k) s .uninit 0) ∧
      (∀ d, Raises (.attrSetDpl .ge d) s .uninit 0) ∧ Raises (.attrGetPresent .ge) s .uninit 0 ∧
      Raises (.attrGetGateKind .ge) s .uninit 0 ∧ Raises (.attrGetDpl .ge) s .uninit 0) ∧
    (s.phase = .loaded →
      (∀ p, Raises (.attrSetPresent .tbl p) s .tableLocked 0) ∧ (∀ k, Raises (.attrSetGateKind .tbl k) s .tableLocked 0) ∧
      (∀ d, Raises (.attrSetDpl .tbl d) s .tableLocked 0)) ∧
    (s.phase ≠ .loaded → s.me.handle = none →
      (∀ p, Raises (.attrSetPresent .tbl p) s .noHandle 0) ∧ (∀ k, Raises (.attrSetGateKind .tbl k) s .noHandle 0) ∧
      (∀ d, Raises (.attrSetDpl .tbl d) s .noHandle 0)) ∧
    (s.me.handle = none →
      Raises (.attrGetPresent .tbl) s .noHandle 0 ∧ Raises (.attrGetGateKind .tbl) s .noHandle 0 ∧
      Raises (.attrGetDpl .tbl) s .noHandle 0)

/-- The round-trip law of the attribute byte (41_attribute R158): from a byte with bit 4 = 0, the three setters in any order leave
p*0x80 + d*0x20 + k, and the getters give p, d and k back. -/
def Obligations.AttributeRoundTrip : Prop :=
  ∀ (s : State) (t : Target) (a : Byte) (k : GateKind) (d : BitVec 2) (p : BitVec 1) (l : List Instr),
    s.curOk → Memory.wf s.mem → AttrHolds s t a → attrBit4 a = 0 → (t = .tbl → s.phase ≠ .loaded) →
    l.Perm [.attrSetGateKind t k, .attrSetDpl t d, .attrSetPresent t p] →
    ∃ u b, runAll l s = .next u ∧ AttrHolds u t b ∧ b.toNat = p.toNat * 0x80 + d.toNat * 0x20 + k.bits.toNat ∧
      (∃ u', exec (.attrGetPresent t) u = .next u' ∧ u'.me.res = some (p.setWidth 32)) ∧
      (∃ u', exec (.attrGetDpl t) u = .next u' ∧ u'.me.res = some (d.setWidth 32)) ∧
      (∃ u', exec (.attrGetGateKind t) u = .next u' ∧ u'.me.res = some (k.bits.setWidth 32))

/-! ### Gate-entry commands (42_gate_entry) -/

/-- GATE_NEW (42_gate_entry R170): its word; GE[c] is the encoding of SEL[c] and the address with the default attribute byte;
UNINIT if SEL[c] = ⊥. -/
def Obligations.GateNewEncodesTheEntry : Prop :=
  WordRule 0x30 (fun w => w.extractLsb' 32 24 == 0) (fun w => .gateNew (w.extractLsb' 0 32)) ∧
  (∀ s : State, s.curOk → ∀ x addr, s.me.sel = some x →
    ∃ t e, exec (.gateNew addr) s = .next t ∧ WritesOwn s t { s.me with ge := some e } ∧
      e = (addr.extractLsb' 16 16 ++ 0x00#8 ++ 0x00#8 ++ x ++ addr.extractLsb' 0 16 : BitVec 64) ∧
      attrPresent (gateAttr e) = 0) ∧
  (∀ s : State, s.me.sel = none → ∀ addr, Raises (.gateNew addr) s .uninit 0)

/-- GATE_MISSING (42_gate_entry R171): its word; GE[c] is 0, whatever SEL[c] holds. -/
def Obligations.GateMissingGivesZero : Prop :=
  WordRule 0x31 (fun w => w.extractLsb' 0 56 == 0) (fun _ => .gateMissing) ∧
  ∀ s : State, s.curOk → ∃ t, exec .gateMissing s = .next t ∧ WritesOwn s t { s.me with ge := some 0 }

/-- GATE_GET_OFFSET, GATE_GET_SEL and GATE_GET_ATTR (42_gate_entry R172, R173, R174): their words; RES[c] gets the field;
UNINIT if GE[c] = ⊥. -/
def Obligations.GateGettersExtractFields : Prop :=
  WordRule 0x32 (fun w => w.extractLsb' 0 56 == 0) (fun _ => .gateGetOffset) ∧
  WordRule 0x33 (fun w => w.extractLsb' 0 56 == 0) (fun _ => .gateGetSel) ∧
  WordRule 0x34 (fun w => w.extractLsb' 0 56 == 0) (fun _ => .gateGetAttr) ∧
  (∀ s : State, s.curOk → ∀ e, s.me.ge = some e →
    (∃ t, exec .gateGetOffset s = .next t ∧
      WritesOwn s t { s.me with res := some (BitVec.ofNat 32 (e.toNat / 2 ^ 48 * 2 ^ 16 + e.toNat % 2 ^ 16)) }) ∧
    (∃ t, exec .gateGetSel s = .next t ∧
      WritesOwn s t { s.me with res := some (BitVec.ofNat 32 (e.toNat / 2 ^ 16 % 2 ^ 16)) }) ∧
    (∃ t, exec .gateGetAttr s = .next t ∧
      WritesOwn s t { s.me with res := some (BitVec.ofNat 32 (e.toNat / 2 ^ 40 % 2 ^ 8)) })) ∧
  (∀ s : State, s.me.ge = none →
    Raises .gateGetOffset s .uninit 0 ∧ Raises .gateGetSel s .uninit 0 ∧ Raises .gateGetAttr s .uninit 0)

/-- The extraction functions undo gate_encode, and bits [39:32] of an encoding are 0 (30_encoding R95). -/
def Obligations.GateEncodeRoundTrip : Prop :=
  ∀ (sel : Selector) (off : Addr) (attr : Byte),
    gateOffset (gateEncode sel off attr) = off ∧ gateSel (gateEncode sel off attr) = sel ∧
    gateAttr (gateEncode sel off attr) = attr ∧ (gateEncode sel off attr).extractLsb' 32 8 = 0

/-- The layout law (42_gate_entry R175): after GATE_NEW and any attribute setters with target ge, the eight bytes of GE[c] in
memory order are the address's low half, the selector, 0x00, the attribute byte and the address's high half. -/
def Obligations.GateEntryLayout : Prop :=
  ∀ (s : State) (x : Selector) (addr : Addr) (l : List Instr), s.curOk → s.me.sel = some x →
    (∀ i ∈ l, (∃ p, i = .attrSetPresent .ge p) ∨ (∃ k, i = .attrSetGateKind .ge k) ∨ (∃ d, i = .attrSetDpl .ge d)) →
    ∃ u e, runAll (.gateNew addr :: l) s = .next u ∧ u.me.ge = some e ∧
      (List.range 8).map (gateByte e) =
        [addr.extractLsb' 0 8, addr.extractLsb' 8 8, x.extractLsb' 0 8, x.extractLsb' 8 8, 0x00, gateAttr e,
          addr.extractLsb' 16 8, addr.extractLsb' 24 8]

/-! ### Table commands (43_idt) -/

/-- IDT_NEW (43_idt R190): its word; every byte of TR is 0x00, PHASE is UNBUILT, every handle is ⊥, PC[c] + 1, and nothing
else but HIST changes; TABLE_LOCKED while PHASE = LOADED. -/
def Obligations.IdtNewClearsTheTable : Prop :=
  WordRule 0x40 (fun w => w.extractLsb' 0 56 == 0) (fun _ => .idtNew) ∧
  (∀ s : State, s.curOk → s.phase ≠ .loaded →
    ∃ t, exec .idtNew s = .next t ∧
      (∀ a, s.params.tbase.toNat ≤ a → a < s.params.tbase.toNat + 8 * s.params.nVectors → Memory.read t.mem a = 0x00) ∧
      (∀ a, (a < s.params.tbase.toNat ∨ s.params.tbase.toNat + 8 * s.params.nVectors ≤ a) →
        Memory.read t.mem a = Memory.read s.mem a) ∧
      t.phase = .unbuilt ∧
      t.me = { s.me with handle := none, pc := s.me.pc + 1 } ∧
      t.ctxs.length = s.ctxs.length ∧ (∀ c, c ≠ s.cur → t.ctx c = { s.ctx c with handle := none }) ∧
      SameBlock { s with phase := .unbuilt } t ∧ SameMutexes s t ∧ ∃ es, t.hist = s.hist ++ es) ∧
  (∀ s : State, s.phase = .loaded → Raises .idtNew s .tableLocked 0)

/-- The one-pass clear of the model is the loop of the rule: writing 0 to the 8 bytes of each entry in turn gives the same memory
(43_idt R190). -/
def Obligations.ClearIsTheLoopOfWrites : Prop :=
  ∀ (m : Memory) (base n : Nat), Memory.wf m →
    Memory.clear m base (8 * n) = (List.range n).foldl (fun k v => Memory.writeLE k (base + 8 * v) 8 0) m

/-- IDT_SET_HANDLER (43_idt R191): its word; the eight bytes of entry v in the layout of 30_encoding R93 with the default
attribute byte, PHASE = POPULATED, HANDLE[c] = v, PC[c] + 1, and nothing else; then its faults in their order. -/
def Obligations.IdtSetHandlerWritesTheEntry : Prop :=
  WordRule 0x41 (fun w => w.extractLsb' 48 8 == 0) (fun w => .idtSetHandler (w.extractLsb' 32 16) (w.extractLsb' 0 32)) ∧
  (∀ (s : State) (v : BitVec 16) (addr : Addr), s.curOk → Memory.wf s.mem → s.phase ≠ .loaded →
    v.toNat < s.params.nVectors →
    ∃ t, exec (.idtSetHandler v addr) s = .next t ∧
      (List.range 8).map (fun k => Memory.read t.mem (s.params.tbase.toNat + 8 * v.toNat + k)) =
        [addr.extractLsb' 0 8, addr.extractLsb' 8 8, s.params.handlerSel.extractLsb' 0 8, s.params.handlerSel.extractLsb' 8 8,
          0x00, 0x00, addr.extractLsb' 16 8, addr.extractLsb' 24 8] ∧
      (∀ a, (a < s.params.tbase.toNat + 8 * v.toNat ∨ s.params.tbase.toNat + 8 * v.toNat + 8 ≤ a) →
        Memory.read t.mem a = Memory.read s.mem a) ∧
      t.me = { s.me with handle := some v.toNat, pc := s.me.pc + 1 } ∧
      SameOthers s t s.cur ∧ SameBlock { s with phase := .populated } t ∧ SameMutexes s t ∧
      t.hist = s.hist ++
        [.tableWrite (s.params.tbase.toNat + 8 * v.toNat) 8 (gateEncode s.params.handlerSel addr 0x00).toNat]) ∧
  (∀ (s : State) (v : BitVec 16) (addr : Addr), s.phase = .loaded →
    Raises (.idtSetHandler v addr) s .tableLocked (v.setWidth 32)) ∧
  (∀ (s : State) (v : BitVec 16) (addr : Addr), s.phase ≠ .loaded → s.params.nVectors ≤ v.toNat →
    Raises (.idtSetHandler v addr) s .vectorRange (v.setWidth 32))

/-- The overwrite law (43_idt R196): after IDT_SET_HANDLER v, a1, any attribute setters on the entry, and IDT_SET_HANDLER v, a2,
entry v is the encoding of a2 with the default attribute byte. -/
def Obligations.SecondHandlerReplacesTheFirst : Prop :=
  ∀ (s : State) (v : BitVec 16) (a1 a2 : Addr) (l : List Instr), s.curOk → Memory.wf s.mem → s.phase ≠ .loaded →
    v.toNat < s.params.nVectors →
    (∀ i ∈ l, (∃ p, i = .attrSetPresent .tbl p) ∨ (∃ k, i = .attrSetGateKind .tbl k) ∨ (∃ d, i = .attrSetDpl .tbl d)) →
    ∃ t, runAll (.idtSetHandler v a1 :: l ++ [.idtSetHandler v a2]) s = .next t ∧
      Memory.readEntry t.mem (s.params.tbase.toNat + 8 * v.toNat) = gateEncode s.params.handlerSel a2 0x00

/-- IDT_LOAD (43_idt R192, R195): its word; at privilege level 0 and not loaded it sets IDTR to the table's size minus one and its
base, PHASE to LOADED and every handle to ⊥, and writes no byte of memory; PRIVILEGE before TABLE_LOCKED. -/
def Obligations.IdtLoadSetsIdtr : Prop :=
  WordRule 0x42 (fun w => w.extractLsb' 0 56 == 0) (fun _ => .idtLoad) ∧
  (∀ s : State, s.curOk → s.params.wf = true → s.cpl s.cur = 0 → s.phase ≠ .loaded →
    ∃ t, exec .idtLoad s = .next t ∧
      (∃ i : Idtr, t.idtr = some i ∧ i.limit.toNat = 8 * s.params.nVectors - 1 ∧ i.base = s.params.tbase ∧
        SameBlock { s with phase := .loaded, idtr := some i } t) ∧
      t.me = { s.me with handle := none, pc := s.me.pc + 1 } ∧
      t.ctxs.length = s.ctxs.length ∧ (∀ c, c ≠ s.cur → t.ctx c = { s.ctx c with handle := none }) ∧
      SameMemory s t ∧ SameMutexes s t ∧
      ∃ p : Pointer, t.hist = s.hist ++ [.load p] ∧
        p.toNat = s.params.tbase.toNat * 2 ^ 16 + (8 * s.params.nVectors - 1)) ∧
  (∀ s : State, s.cpl s.cur ≠ 0 → Raises .idtLoad s .privilege ((s.cpl s.cur).setWidth 32)) ∧
  (∀ s : State, s.cpl s.cur = 0 → s.phase = .loaded → Raises .idtLoad s .tableLocked 0)

/-- No mutation after load (43_idt R193): while PHASE = LOADED no step writes a byte of memory or changes PHASE or IDTR, and every
mutating command raises TABLE_LOCKED. -/
def Obligations.NoMutationAfterLoad : Prop :=
  ∀ s : State, s.phase = .loaded →
    (∀ t, step s = .next t → SameMemory s t ∧ t.phase = .loaded ∧ t.idtr = s.idtr) ∧
    Raises .idtNew s .tableLocked 0 ∧
    (∀ v addr, Raises (.idtSetHandler v addr) s .tableLocked (v.setWidth 32)) ∧
    (s.cpl s.cur = 0 → Raises .idtLoad s .tableLocked 0) ∧
    (∀ p, Raises (.attrSetPresent .tbl p) s .tableLocked 0) ∧ (∀ k, Raises (.attrSetGateKind .tbl k) s .tableLocked 0) ∧
    (∀ d, Raises (.attrSetDpl .tbl d) s .tableLocked 0)

/-- The only transitions of PHASE (43_idt R194): a command that is not one of the three table commands, or that raised a fault,
leaves PHASE; so do the other agents' steps. -/
def Obligations.PhaseTransitions : Prop :=
  (∀ i s t, exec i s = .next t →
    (s.phase ≠ .loaded ∧ (∃ v addr, i = .idtSetHandler v addr ∧ v.toNat < s.params.nVectors) ∧ t.phase = .populated) ∨
    (s.phase ≠ .loaded ∧ i = .idtNew ∧ t.phase = .unbuilt) ∨
    (s.phase ≠ .loaded ∧ i = .idtLoad ∧ s.cpl s.cur = 0 ∧ t.phase = .loaded) ∨
    (t.phase = s.phase ∧ (s.phase = .loaded ∨ (i ≠ .idtNew ∧ (i = .idtLoad → s.cpl s.cur ≠ 0) ∧
      ∀ v addr, i = .idtSetHandler v addr → s.params.nVectors ≤ v.toNat)))) ∧
  (∀ r s t, takeMove (.request r) s = .next t → t.phase = s.phase) ∧
  (∀ b s t, takeMove (.setIE b) s = .next t → t.phase = s.phase)

/-- IDT_INSTALL (30_encoding R109, 70_reset R282): the four commands it expands to leave a present entry of the given kind and
DPL at the vector, in the table of HANDLER_SEL and the address. -/
def Obligations.InstallBuildsAPresentEntry : Prop :=
  ∀ (s : State) (v addr : Nat) (kind : GateKind) (dpl : Nat) (l : List Instr), s.curOk → Memory.wf s.mem →
    s.phase ≠ .loaded → v < s.params.nVectors →
    assemble (.idtInstall v addr (.name kind) dpl) = some l →
    ∃ t, runAll l s = .next t ∧
      Memory.readEntry t.mem (s.params.tbase.toNat + 8 * v) =
        gateEncode s.params.handlerSel (BitVec.ofNat 32 addr) (BitVec.ofNat 8 (0x80 + dpl * 0x20 + kind.bits.toNat)) ∧
      t.phase = .populated ∧ t.me.pc = s.me.pc + 4

/-! ### Mutex commands (44_spinlock) -/

/-- MUTEX_NEW (44_spinlock R220): its word; on a free mutex PAYLOAD[m] = d, FLAG[m] = 0, HOLDER[m] = ⊥; MUTEX_BUSY if it is held. -/
def Obligations.MutexNewInitialises : Prop :=
  MutexWordRule 0x50 (fun w => w.extractLsb' 32 16 == 0) (fun w => .mutexNew (w.extractLsb' 48 8) (w.extractLsb' 0 32)) ∧
  (∀ (s : State) (m : BitVec 8) (d : Payload), s.curOk → m.toNat < s.mutexes.length → (s.mutex m.toNat).flag = false →
    ∃ t, exec (.mutexNew m d) s = .next t ∧ WritesMutex s t s.me m.toNat ⟨false, d, none⟩ ∧ t.hist = s.hist) ∧
  (∀ (s : State) (m : BitVec 8) (d : Payload), (s.mutex m.toNat).flag = true →
    Raises (.mutexNew m d) s .mutexBusy (m.setWidth 32))

/-- MUTEX_LOCK (44_spinlock R222): its word; on a clear flag the attempt succeeds, FLAG[m] = 1 and HOLDER[m] = c; on
a held flag, whoever holds it, the attempt changes nothing but HIST, and PC[c] stays. -/
def Obligations.MutexLockAcquiresOrSpins : Prop :=
  MutexWordRule 0x51 (fun w => w.extractLsb' 0 48 == 0) (fun w => .mutexLock (w.extractLsb' 48 8)) ∧
  (∀ (s : State) (m : BitVec 8), s.curOk → m.toNat < s.mutexes.length → (s.mutex m.toNat).flag = false →
    ∃ t, exec (.mutexLock m) s = .next t ∧
      WritesMutex s t s.me m.toNat ⟨true, (s.mutex m.toNat).payload, some s.cur⟩ ∧
      t.hist = s.hist ++ [.lockAttempt s.cur m.toNat true]) ∧
  (∀ (s : State) (m : BitVec 8), (s.mutex m.toNat).flag = true →
    exec (.mutexLock m) s = .next { s with hist := s.hist ++ [.lockAttempt s.cur m.toNat false] })

/-- MUTEX_UNLOCK (44_spinlock R223): its word; for the holder FLAG[m] = 0 and HOLDER[m] = ⊥; GUARD_NOT_HELD for anyone else. -/
def Obligations.MutexUnlockReleases : Prop :=
  MutexWordRule 0x52 (fun w => w.extractLsb' 0 48 == 0) (fun w => .mutexUnlock (w.extractLsb' 48 8)) ∧
  (∀ (s : State) (m : BitVec 8), s.curOk → m.toNat < s.mutexes.length → (s.mutex m.toNat).holder = some s.cur →
    ∃ t, exec (.mutexUnlock m) s = .next t ∧
      WritesMutex s t s.me m.toNat ⟨false, (s.mutex m.toNat).payload, none⟩ ∧
      t.hist = s.hist ++ [.release s.cur m.toNat]) ∧
  (∀ (s : State) (m : BitVec 8), (s.mutex m.toNat).holder ≠ some s.cur →
    Raises (.mutexUnlock m) s .guardNotHeld (m.setWidth 32))

/-- MUTEX_READ (44_spinlock R224): its word; for the holder RES[c] = PAYLOAD[m]; GUARD_NOT_HELD for anyone else. -/
def Obligations.MutexReadGivesThePayload : Prop :=
  MutexWordRule 0x53 (fun w => w.extractLsb' 0 48 == 0) (fun w => .mutexRead (w.extractLsb' 48 8)) ∧
  (∀ (s : State) (m : BitVec 8), s.curOk → (s.mutex m.toNat).holder = some s.cur →
    ∃ t, exec (.mutexRead m) s = .next t ∧ WritesOwn s t { s.me with res := some (s.mutex m.toNat).payload }) ∧
  (∀ (s : State) (m : BitVec 8), (s.mutex m.toNat).holder ≠ some s.cur →
    Raises (.mutexRead m) s .guardNotHeld (m.setWidth 32))

/-- MUTEX_WRITE (44_spinlock R225): its word; for the holder PAYLOAD[m] = d; GUARD_NOT_HELD for anyone else. -/
def Obligations.MutexWriteSetsThePayload : Prop :=
  MutexWordRule 0x54 (fun w => w.extractLsb' 32 16 == 0) (fun w => .mutexWrite (w.extractLsb' 48 8) (w.extractLsb' 0 32)) ∧
  (∀ (s : State) (m : BitVec 8) (d : Payload), s.curOk → m.toNat < s.mutexes.length →
    (s.mutex m.toNat).holder = some s.cur →
    ∃ t, exec (.mutexWrite m d) s = .next t ∧ WritesMutex s t s.me m.toNat { s.mutex m.toNat with payload := d } ∧
      t.hist = s.hist) ∧
  (∀ (s : State) (m : BitVec 8) (d : Payload), (s.mutex m.toNat).holder ≠ some s.cur →
    Raises (.mutexWrite m d) s .guardNotHeld (m.setWidth 32))

/-- MUTEX_WRITEADD (44_spinlock R226): its word; for the holder PAYLOAD[m] = (RES[c] + d) mod 2^32 and RES[c] stays; UNINIT if
RES[c] = ⊥, before GUARD_NOT_HELD for anyone else. -/
def Obligations.MutexWriteaddAddsToRes : Prop :=
  MutexWordRule 0x55 (fun w => w.extractLsb' 32 16 == 0)
    (fun w => .mutexWriteadd (w.extractLsb' 48 8) (w.extractLsb' 0 32)) ∧
  (∀ (s : State) (m : BitVec 8) (d x : Payload), s.curOk → m.toNat < s.mutexes.length → s.me.res = some x →
    (s.mutex m.toNat).holder = some s.cur →
    ∃ t, exec (.mutexWriteadd m d) s = .next t ∧
      WritesMutex s t s.me m.toNat { s.mutex m.toNat with payload := BitVec.ofNat 32 ((x.toNat + d.toNat) % 2 ^ 32) } ∧
      t.hist = s.hist) ∧
  (∀ (s : State) (m : BitVec 8) (d : Payload), s.me.res = none → Raises (.mutexWriteadd m d) s .uninit 0) ∧
  (∀ (s : State) (m : BitVec 8) (d x : Payload), s.me.res = some x → (s.mutex m.toNat).holder ≠ some s.cur →
    Raises (.mutexWriteadd m d) s .guardNotHeld (m.setWidth 32))

/-- The end of a context (10_state R23, 44_spinlock R227): when a command leaves PC[c] at the end of its list, in the same step
every guard c holds is released, a context under INTERLEAVED and context 0 are DONE, a handler context is IDLE with PC 0 and
leaves ACTIVE; SEL, GE, RES and HANDLE keep their values and no other context changes. That context 0 leaves ACTIVE too is the
model's inference (log 9). -/
def Obligations.ContextEndReleasesItsGuards : Prop :=
  ∀ (s : State) (c : Nat) (w : Word) (i : Instr) (t : State), c < s.ctxs.length → s.fetch c = some w →
    decode s.params.nMutex w = .ok i → exec i (s.focus c) = .next t → (t.ctx c).pc = (s.prog c).length →
    ∃ u, takeMove (.ctx c) s = .next u ∧
      u.mutexes.length = t.mutexes.length ∧
      (∀ m, (t.mutex m).holder = some c → u.mutex m = ⟨false, (t.mutex m).payload, none⟩) ∧
      (∀ m, (t.mutex m).holder ≠ some c → u.mutex m = t.mutex m) ∧
      (s.params.sched = .interleaved → u.ctx c = { t.ctx c with status := .done } ∧ u.active = t.active) ∧
      (s.params.sched = .nested → u.active = t.active.dropLast ∧
        (c = 0 → u.ctx c = { t.ctx c with status := .done }) ∧
        (c ≠ 0 → u.ctx c = { t.ctx c with status := .idle, pc := 0 })) ∧
      (∀ c', c' ≠ c → u.ctx c' = t.ctx c') ∧
      SameMemory t u ∧ SameBlock { t with active := u.active } u

/-! ### The dispatch agent (60_exceptions) -/

/-- A request whose entry is present, of a valid kind and (for SOFTWARE) callable is delivered with the entry's offset, selector
and attribute byte; under INTERLEAVED, or for a vector VEC_CTX does not map, nothing else changes (60_exceptions R256, R257). -/
def Obligations.DispatchDelivers : Prop :=
  ∀ (s : State) (r : Request), s.Inv → (s.params.sched = .interleaved ∨ s.params.handlerOf r.vector = none) →
    ∀ byte, Deliverable s r byte →
    takeMove (.request r) s = .next { s with hist := s.hist ++ [deliverEvent r byte] }

/-- The failures of the lookup, in their order, each writing FAULT, recording the dispatch with its outcome, and nothing else
(60_exceptions R250, R251, R256). That a failed dispatch is recorded is the model's reading of 10_state R39 beside R251 and R252
(log 10). -/
def Obligations.DispatchFailures : Prop :=
  ∀ (s : State) (r : Request), s.Inv →
    (s.phase ≠ .loaded → DispatchFails r s .notLoaded) ∧
    (s.phase = .loaded → s.params.nVectors ≤ r.vector → DispatchFails r s .limit) ∧
    (s.phase = .loaded → r.vector < s.params.nVectors →
      ∀ a : Byte, a = Memory.read s.mem (s.params.tbase.toNat + 8 * r.vector + 5) →
      (a.extractLsb' 7 1 = 0 → DispatchFails r s .notPresent) ∧
      (a.extractLsb' 7 1 = 1 → a.extractLsb' 0 4 ∉ [0x5#4, 0x6#4, 0x7#4, 0xE#4, 0xF#4] → DispatchFails r s .badKind) ∧
      (a.extractLsb' 7 1 = 1 → a.extractLsb' 0 4 ∈ [0x5#4, 0x6#4, 0x7#4, 0xE#4, 0xF#4] →
        ∀ cpl, r.source = .software cpl → (a.extractLsb' 5 2).toNat < cpl.toNat → DispatchFails r s .dpl))

/-- The dispatch agent's read stays inside TR (60_exceptions R256, 20_memory R61): under the invariant every request is answered
with a next state, so that no access outside TR stops it; the answer depends on no byte of MEM outside TR; and the address the
lookup computes after its limit test is that of entry v. -/
def Obligations.DispatchReadsInsideTheTable : Prop :=
  ∀ (s : State) (r : Request), s.Inv →
    (∃ t, takeMove (.request r) s = .next t) ∧
    (∀ mem : Memory,
      (∀ a, s.params.tbase.toNat ≤ a → a < s.params.tbase.toNat + 8 * s.params.nVectors →
        Memory.read mem a = Memory.read s.mem a) →
      takeMove (.request r) { s with mem := mem } = onNext (takeMove (.request r) s) fun t => { t with mem := mem }) ∧
    (∀ i : Idtr, s.idtr = some i → 8 * r.vector + 7 ≤ i.limit.toNat →
      s.params.tbase.toNat ≤ i.base.toNat + 8 * r.vector ∧
      i.base.toNat + 8 * r.vector + 7 < s.params.tbase.toNat + 8 * s.params.nVectors ∧
      i.base.toNat + 8 * r.vector + 7 < 2 ^ 32)

/-- Delivery under NESTED for a vector VEC_CTX maps to handler h (60_exceptions R256, R257): HIST gets DELIVER with the entry's
offset, selector and attribute byte, and then an IDLE handler is pushed on ACTIVE and runs from command 0; one with an empty list
ends at once, so that nothing else is changed; one that is not IDLE sets REFUSED. That the delivery is recorded in the refused
case too is the model's reading of the order in R256 (log 8). -/
def Obligations.DeliveryStartsTheHandler : Prop :=
  ∀ (s : State) (r : Request) (h : Nat), s.Inv → s.params.sched = .nested → s.params.handlerOf r.vector = some h →
    ∀ byte, Deliverable s r byte →
    ((s.ctx h).status = .idle → s.prog h ≠ [] →
      ∃ u, takeMove (.request r) s = .next u ∧ u.hist = s.hist ++ [deliverEvent r byte] ∧
        u.active = s.active ++ [h] ∧ u.ctx h = { s.ctx h with status := .running, pc := 0 } ∧ SameOthers s u h ∧
        SameMemory s u ∧ SameMutexes s u ∧ SameBlock { s with active := u.active } u) ∧
    ((s.ctx h).status = .idle → s.prog h = [] →
      takeMove (.request r) s = .next { s with hist := s.hist ++ [deliverEvent r byte] }) ∧
    ((s.ctx h).status ≠ .idle →
      takeMove (.request r) s = .next { s with hist := s.hist ++ [deliverEvent r byte], refused := true })

/-! ### Whole-machine rules -/

/-- A command writes only the registers of its own context; IDT_NEW and IDT_LOAD also set the other contexts' handles to ⊥
(10_state R21). -/
def Obligations.CommandsWriteOnlyTheirOwnRegisters : Prop :=
  ∀ i s t, exec i s = .next t → ∀ c, c ≠ s.cur →
    t.ctx c = s.ctx c ∨ ((i = .idtNew ∨ i = .idtLoad) ∧ t.ctx c = { s.ctx c with handle := none })

/-- Faults are precise (60_exceptions R251, R252): a step that raises a fault writes FAULT and nothing else of the block, and a
context's fault names the word and the PC it still stands at. A dispatch fault names its vector and subcode, and HIST gets the
dispatch with its outcome: the model's reading of 10_state R39 beside R251 and R252 (log 10). -/
def Obligations.FaultsArePrecise : Prop :=
  ∀ s t r, step s = .next t → t.fault = some r →
    (∀ c, r.agent = .ctx c → t = { s.consumeChoice with fault := some r, cur := c } ∧
      r.pc = some (s.ctx c).pc ∧ r.word = s.fetch c ∧ s.fetch c ≠ none ∧ r.code ≠ .dispatch) ∧
    (r.agent = .disp → ∃ v src sub,
      t = { s.consumeChoice with fault := some r, hist := s.hist ++ [.dispatchFailed v src sub] } ∧
      r = ⟨.dispatch, some sub, .disp, none, none, BitVec.ofNat 32 v⟩)

/-- FLAG[m] = 1 if and only if HOLDER[m] ≠ ⊥ (10_state R33): kept by every step of every state that has it, reachable or not. -/
def Obligations.GuardInvariantKept : Prop :=
  ∀ s t, (∀ m < s.mutexes.length, ((s.mutex m).flag = true ↔ (s.mutex m).holder ≠ none)) → step s = .next t →
    ∀ m < t.mutexes.length, ((t.mutex m).flag = true ↔ (t.mutex m).holder ≠ none)

/-- Memory keeps its canonical form through every step, from every state that has it. -/
def Obligations.MemoryCanonicalKept : Prop :=
  ∀ s t, Memory.wf s.mem → step s = .next t → Memory.wf t.mem

/-- The parameters, and with them every context's privilege level and command list, never change (10_state R21, R41;
60_exceptions R261). -/
def Obligations.ParametersNeverChange : Prop :=
  ∀ s t, step s = .next t → t.params = s.params ∧ (∀ c, t.cpl c = s.cpl c) ∧ (∀ c, t.prog c = s.prog c)

/-- The invariant of the block holds after every launch of a well-formed configuration, State.reset among them. -/
def Obligations.LaunchEstablishesInvariant : Prop :=
  (∀ p s, State.launch p = .next s → s.Inv) ∧ State.reset.Inv

/-- Every step keeps the invariant of the block: the guards (10_state R33), the handles (41_attribute R150), IDTR and IE
(43_idt R192, 60_exceptions R259), byte 4 of every entry and bit 4 of every attribute byte 0 (42_gate_entry R175, 41_attribute
R157), memory canonical and inside TR (20_memory R61), and ACTIVE (10_state R38): that it holds exactly the RUNNING contexts after
the end of context 0 under NESTED is the model's inference (log 9). -/
def Obligations.StepKeepsInvariant : Prop :=
  ∀ s t, s.Inv → step s = .next t → t.Inv

/-- Progress: under the invariant a step always happens, until the run has one of the outcomes of 70_reset R284. So the machine is
never stuck, and no access ever leaves TR (20_memory R61). -/
def Obligations.UnhaltedBlockSteps : Prop :=
  ∀ s, s.Inv → s.halted = false → ∃ t, step s = .next t

/-- Re-entrant acquisition hangs (44_spinlock R229): once a context stands at MUTEX_LOCK m with m its own, no step of any agent
moves it on. -/
def Obligations.ReentrantLockHangs : Prop :=
  ∀ (s t : State) (c : Nat) (m : BitVec 8), s.relocking c m → step s = .next t →
    t.relocking c m ∧ (t.ctx c).pc = (s.ctx c).pc

/-- And the run diverges (44_spinlock R229, 70_reset R284): the one context of a block that stands at MUTEX_LOCK m with m its own
has an infinite, weakly fair run. -/
def Obligations.ReentrantLockDiverges : Prop :=
  ∀ (s : State) (m : BitVec 8), s.Inv → s.halted = false → s.params.sched = .interleaved → s.params.nCtx = 1 →
    s.relocking 0 m → s.Diverges

/-- The interrupt-context deadlock (44_spinlock R230): under NESTED, once a handler stands at MUTEX_LOCK m above the holder of m on
ACTIVE, no step of any agent moves either of them on. -/
def Obligations.HandlerDeadlockHangs : Prop :=
  ∀ (s t : State) (a h : Nat) (m : BitVec 8), s.Inv → s.handlerDeadlock a h m → step s = .next t →
    t.handlerDeadlock a h m ∧ (t.ctx a).pc = (s.ctx a).pc ∧ (t.ctx h).pc = (s.ctx h).pc

/-- The mutual-exclusion law (44_spinlock R231): contexts that each run CRITICAL_ADD m, 1 some number of times from PAYLOAD[m] = 0
leave, in every completed run under INTERLEAVED, the sum of those numbers mod 2^32 in PAYLOAD[m]. -/
def Obligations.ContendedIncrementsAllCount : Prop :=
  ∀ (p : Params) (m : BitVec 8) (ks : List Nat) (s : State), p.wf = true → contention p m ks →
    p.mutexInit[m.toNat]? = some 0 → Reaches (State.resetOf p) s → s.outcome = some .completed →
    (s.mutex m.toNat).payload = BitVec.ofNat 32 ks.sum
end

