-- ==== Sys2Proof/Laws/Decode.lean ====
section
/-! SUPPORT. Reading the command word bit by bit: the opcode, the must-be-zero bits, and when a row selects a word. -/

namespace Sys2Proof

/-- The opcode's bits of a word. -/
theorem getLsbD_opcode {w : Word} {op : Nat} (h : opcodeField w = op) (j : Nat) (hj : j < 8) :
    w.getLsbD (56 + j) = (BitVec.ofNat 8 op).getLsbD j := by
  have : BitVec.ofNat 8 op = w.extractLsb' 56 8 := by
    apply BitVec.eq_of_toNat_eq
    subst h
    simp [opcodeField]
  rw [this, BitVec.getLsbD_extractLsb']
  simp [hj]

/-- A field is zero when its bits are. -/
theorem extractLsb'_eq_zero_iff {m : Nat} (w : BitVec m) (k n : Nat) :
    w.extractLsb' k n = 0 ↔ ∀ i < n, w.getLsbD (k + i) = false := by
  constructor
  · intro h i hi
    have := congrArg (·.getLsbD i) h
    simpa [hi] using this
  · intro h
    apply BitVec.eq_of_getLsbD_eq
    intro i hi
    simp [hi, h i hi]

/-- A row whose mask is the opcode and the must-be-zero bits z selects a word of its opcode exactly when those bits are zero
(30_encoding R103, R104). -/
theorem selects_iff {r : Row} {op : Nat} {w : Word} (h : opcodeField w = op) (z : Nat → Bool)
    (hmask : ∀ i < 64, r.mask.getLsbD i = (decide (56 ≤ i) || z i))
    (hpat : ∀ i < 64, r.pat.getLsbD i = (decide (56 ≤ i) && (BitVec.ofNat 8 op).getLsbD (i - 56))) :
    r.selects w = true ↔ ∀ i < 56, z i = true → w.getLsbD i = false := by
  simp only [Row.selects, decide_eq_true_eq]
  constructor
  · intro e i hi hz
    have := congrArg (·.getLsbD i) e
    simpa [hmask i (by omega), hpat i (by omega), hz, show ¬ 56 ≤ i by omega] using this
  · intro H
    apply BitVec.eq_of_getLsbD_eq
    intro i hi
    by_cases hop : 56 ≤ i
    · have := getLsbD_opcode h (i - 56) (by omega)
      rw [show 56 + (i - 56) = i by omega] at this
      simp [hmask i hi, hpat i hi, hop, this]
    · by_cases hz : z i = true
      · simp [hmask i hi, hpat i hi, hop, H i (by omega) hz]
      · simp [hmask i hi, hpat i hi, hop, hz]

end Sys2Proof
end

