-- ==== Sys2Proof/Laws/Memory.lean ====
section
/-! SUPPORT. The memory: read after write, the frame of a write, and that every operation keeps the canonical form. -/

namespace Sys2Proof.Machine

theorem Memory.wf_nil : Memory.wf [] := by simp [Memory.wf]

theorem Memory.wf_cons {x : Host.Cell} {m : Memory} :
    Memory.wf (x :: m) ↔ (∀ y ∈ m, x.1 < y.1) ∧ x.2 ≠ Memory.unlisted ∧ Memory.wf m := by
  simp only [Memory.wf, List.pairwise_cons, List.mem_cons, forall_eq_or_imp]
  tauto

theorem Memory.read_eq_unlisted {m : Memory} {a : Nat} (h : ∀ y ∈ m, y.1 ≠ a) : Memory.read m a = Memory.unlisted := by
  induction m with
  | nil => rfl
  | cons x m ih =>
    obtain ⟨b, y⟩ := x
    have hb : a ≠ b := fun e => h (b, y) (by simp) e.symm
    simp only [Memory.read, hb, if_false]
    exact ih fun z hz => h z (by simp [hz])

/-- A write lists no address but the written one besides those listed before. -/
theorem Memory.mem_write {m : Memory} {a : Nat} {x : Byte} {c : Host.Cell} (h : c ∈ Memory.write m a x) :
    c ∈ m ∨ (c = (a, x) ∧ x ≠ Memory.unlisted) := by
  induction m with
  | nil =>
    simp only [Memory.write] at h
    split at h <;> simp_all
  | cons y m ih =>
    obtain ⟨b, y⟩ := y
    simp only [Memory.write] at h
    split at h
    · split at h <;> simp_all; tauto
    · split at h
      · split at h <;> simp_all; tauto
      · rcases List.mem_cons.1 h with h | h
        · exact .inl (by simp [h])
        · rcases ih h with h | h
          · exact .inl (by simp [h])
          · exact .inr h

/-- A write keeps the canonical form. -/
theorem Memory.wf_write {m : Memory} (h : Memory.wf m) (a : Nat) (x : Byte) : Memory.wf (Memory.write m a x) := by
  induction m with
  | nil => unfold Memory.write; split <;> simp_all [Memory.wf]
  | cons y m ih =>
    obtain ⟨b, y⟩ := y
    obtain ⟨hlt, hy, hm⟩ := Memory.wf_cons.1 h
    simp only [Memory.write]
    split
    · split
      · exact h
      · refine Memory.wf_cons.2 ⟨fun z hz => ?_, by assumption, h⟩
        rcases List.mem_cons.1 hz with rfl | hz
        · assumption
        · have := hlt z hz; simp only at this ⊢; omega
    · split
      · split
        · exact hm
        · subst_vars; exact Memory.wf_cons.2 ⟨hlt, by assumption, hm⟩
      · refine Memory.wf_cons.2 ⟨fun z hz => ?_, hy, ih hm⟩
        rcases Memory.mem_write hz with hz | ⟨rfl, -⟩
        · exact hlt z hz
        · simp only; omega

/-- The byte read after a write. -/
theorem Memory.read_write {m : Memory} (h : Memory.wf m) (a : Nat) (x : Byte) (b : Nat) :
    Memory.read (Memory.write m a x) b = if b = a then x else Memory.read m b := by
  induction m with
  | nil => simp only [Memory.write]; split <;> simp_all [Memory.read]
  | cons y m ih =>
    obtain ⟨d, y⟩ := y
    obtain ⟨hlt, hy, hm⟩ := Memory.wf_cons.1 h
    simp only [Memory.write]
    split
    · rename_i had
      have hun : Memory.read ((d, y) :: m) a = Memory.unlisted := by
        refine Memory.read_eq_unlisted fun z hz => ?_
        rcases List.mem_cons.1 hz with rfl | hz
        · simp only; omega
        · have := hlt z hz; simp only at this; omega
      split
      · split
        · subst_vars; exact hun
        · rfl
      · conv_lhs => rw [Memory.read]
    · split
      · rename_i had
        subst had
        have hun : Memory.read m a = Memory.unlisted :=
          Memory.read_eq_unlisted fun z hz => by have := hlt z hz; simp only at this; omega
        split
        · by_cases hb : b = a
          · simp_all
          · simp [Memory.read, hb]
        · by_cases hb : b = a <;> simp [Memory.read, hb]
      · rename_i h1 h2
        simp only [Memory.read, ih hm]
        by_cases hb : b = d
        · subst hb; simp [show b ≠ a by omega]
        · simp [hb]

theorem Memory.wf_writeLE {m : Memory} (h : Memory.wf m) (a n v : Nat) : Memory.wf (Memory.writeLE m a n v) := by
  induction n generalizing m a v with
  | zero => exact h
  | succ n ih => exact ih (Memory.wf_write h _ _) _ _

/-- The byte read after a little-endian write of n bytes (00_scope R10, 20_memory R62). -/
theorem Memory.read_writeLE {m : Memory} (h : Memory.wf m) (a n v b : Nat) :
    Memory.read (Memory.writeLE m a n v) b =
      if a ≤ b ∧ b < a + n then BitVec.ofNat 8 (v / 2 ^ (8 * (b - a))) else Memory.read m b := by
  induction n generalizing m a v with
  | zero => simp only [Memory.writeLE]; rw [if_neg (by omega)]
  | succ n ih =>
    rw [Memory.writeLE, ih (Memory.wf_write h _ _), Memory.read_write h]
    by_cases h1 : a + 1 ≤ b ∧ b < a + 1 + n
    · rw [if_pos h1, if_pos (by omega), Nat.div_div_eq_div_mul, ← Nat.pow_add]
      congr 3
      omega
    · rw [if_neg h1]
      by_cases h2 : b = a
      · subst h2; simp
      · rw [if_neg h2, if_neg (by omega)]

/-- A little-endian read gives back a little-endian write of the same bytes. -/
theorem Memory.readLE_writeLE {m : Memory} (h : Memory.wf m) (a n v : Nat) :
    Memory.readLE (Memory.writeLE m a n v) a n = v % 2 ^ (8 * n) := by
  suffices H : ∀ k, k ≤ n → Memory.readLE (Memory.writeLE m a n v) (a + (n - k)) k = v / 2 ^ (8 * (n - k)) % 2 ^ (8 * k) by
    simpa using H n (Nat.le_refl _)
  intro k
  induction k with
  | zero => intro _; simp [Memory.readLE, Nat.mod_one]
  | succ k ih =>
    intro hk
    have e : a + (n - (k + 1)) + 1 = a + (n - k) := by omega
    rw [Memory.readLE, e, ih (by omega), Memory.read_writeLE h, if_pos (by omega)]
    have e1 : a + (n - (k + 1)) - a = n - (k + 1) := by omega
    have e2 : 8 * (n - k) = 8 * (n - (k + 1)) + 8 := by omega
    have e3 : 8 * (k + 1) = 8 + 8 * k := by omega
    rw [e1, e2, e3, Nat.pow_add, Nat.pow_add, ← Nat.div_div_eq_div_mul, BitVec.toNat_ofNat, Nat.mod_mul]

/-- A read depends on the bytes it reads only. -/
theorem Memory.readLE_congr {m m' : Memory} {a n : Nat}
    (h : ∀ b, a ≤ b → b < a + n → Memory.read m b = Memory.read m' b) : Memory.readLE m a n = Memory.readLE m' a n := by
  induction n generalizing a with
  | zero => rfl
  | succ n ih =>
    simp only [Memory.readLE]
    rw [h a (by omega) (by omega), ih fun b hb hb' => h b (by omega) (by omega)]

theorem Memory.wf_clear {m : Memory} (h : Memory.wf m) (a n : Nat) : Memory.wf (Memory.clear m a n) :=
  ⟨h.1.filter _, fun x hx => h.2 x (List.mem_of_mem_filter hx)⟩

/-- The byte read after a clear. -/
theorem Memory.read_clear (m : Memory) (a n b : Nat) :
    Memory.read (Memory.clear m a n) b = if a ≤ b ∧ b < a + n then Memory.unlisted else Memory.read m b := by
  induction m with
  | nil => simp [Memory.clear, Memory.read]
  | cons x m ih =>
    obtain ⟨d, y⟩ := x
    simp only [Memory.clear] at ih
    by_cases hd : a ≤ d ∧ d < a + n
    · have : Memory.clear ((d, y) :: m) a n = Memory.clear m a n := by simp [Memory.clear, hd]
      rw [this, Memory.clear, ih, Memory.read]
      by_cases hb : b = d
      · subst hb; simp [hd]
      · simp [hb]
    · have : Memory.clear ((d, y) :: m) a n = (d, y) :: Memory.clear m a n := by
        simp only [Memory.clear]
        rw [List.filter_cons_of_pos]
        simp only [Bool.not_eq_eq_eq_not, Bool.not_true, Bool.and_eq_false_imp, decide_eq_true_eq, decide_eq_false_iff_not]
        omega
      rw [this, Memory.read, Memory.clear, ih, Memory.read]
      by_cases hb : b = d
      · subst hb; simp [hd]
      · simp [hb]

/-- Equal bytes make equal memories, for canonical ones. -/
theorem Memory.ext {m m' : Memory} (h : Memory.wf m) (h' : Memory.wf m')
    (hr : ∀ a, Memory.read m a = Memory.read m' a) : m = m' := by
  induction m generalizing m' with
  | nil =>
    cases m' with
    | nil => rfl
    | cons y m' =>
      obtain ⟨b, y⟩ := y
      exact absurd (by simpa [Memory.read] using (hr b).symm) (Memory.wf_cons.1 h').2.1
  | cons x m ih =>
    obtain ⟨a, x⟩ := x
    obtain ⟨hlt, hx, hm⟩ := Memory.wf_cons.1 h
    cases m' with
    | nil => exact absurd (by simpa [Memory.read] using hr a) hx
    | cons y m' =>
      obtain ⟨b, y⟩ := y
      obtain ⟨hlt', hy, hm'⟩ := Memory.wf_cons.1 h'
      have hab : a = b := by
        rcases Nat.lt_trichotomy a b with hab | hab | hab
        · have := hr a
          rw [Memory.read_eq_unlisted (m := (b, y) :: m')] at this
          · exact absurd (by simpa [Memory.read] using this) hx
          · intro z hz
            rcases List.mem_cons.1 hz with rfl | hz
            · simp only; omega
            · have := hlt' z hz; simp only at this; omega
        · exact hab
        · have := hr b
          rw [Memory.read_eq_unlisted (m := (a, x) :: m)] at this
          · exact absurd (by simpa [Memory.read] using this.symm) hy
          · intro z hz
            rcases List.mem_cons.1 hz with rfl | hz
            · simp only; omega
            · have := hlt z hz; simp only at this; omega
      subst hab
      have hxy : x = y := by simpa [Memory.read] using hr a
      subst hxy
      rw [ih hm hm' fun b => ?_]
      by_cases hb : b = a
      · subst hb
        rw [Memory.read_eq_unlisted fun z hz => by have := hlt z hz; simp only at this; omega,
          Memory.read_eq_unlisted fun z hz => by have := hlt' z hz; simp only at this; omega]
      · simpa [Memory.read, hb] using hr b

/-- A write lists only addresses of its bytes besides those listed before. -/
theorem Memory.mem_writeLE {m : Memory} {a n v : Nat} {c : Host.Cell} (h : c ∈ Memory.writeLE m a n v) :
    c ∈ m ∨ (a ≤ c.1 ∧ c.1 < a + n) := by
  induction n generalizing m a v with
  | zero => exact .inl h
  | succ n ih =>
    rcases ih h with h | h
    · rcases Memory.mem_write h with h | ⟨rfl, -⟩
      · exact .inl h
      · exact .inr (by simp)
    · exact .inr (by omega)

end Sys2Proof.Machine
end

