-- ==== Sys2Proof/Laws/State.lean ====
section
/-! SUPPORT. What each update of the state does to each field and to each register read: one lemma a field, so that no proof
unfolds a record update. -/

namespace Sys2Proof.Machine

/-! ### updCtx -/

@[simp] theorem State.updCtx_params (s : State) (c : Nat) (f : Ctx → Ctx) : (s.updCtx c f).params = s.params := rfl
@[simp] theorem State.updCtx_ctxs (s : State) (c : Nat) (f : Ctx → Ctx) : (s.updCtx c f).ctxs = s.ctxs.modify c f := rfl
@[simp] theorem State.updCtx_mem (s : State) (c : Nat) (f : Ctx → Ctx) : (s.updCtx c f).mem = s.mem := rfl
@[simp] theorem State.updCtx_phase (s : State) (c : Nat) (f : Ctx → Ctx) : (s.updCtx c f).phase = s.phase := rfl
@[simp] theorem State.updCtx_idtr (s : State) (c : Nat) (f : Ctx → Ctx) : (s.updCtx c f).idtr = s.idtr := rfl
@[simp] theorem State.updCtx_mutexes (s : State) (c : Nat) (f : Ctx → Ctx) : (s.updCtx c f).mutexes = s.mutexes := rfl
@[simp] theorem State.updCtx_fault (s : State) (c : Nat) (f : Ctx → Ctx) : (s.updCtx c f).fault = s.fault := rfl
@[simp] theorem State.updCtx_refused (s : State) (c : Nat) (f : Ctx → Ctx) : (s.updCtx c f).refused = s.refused := rfl
@[simp] theorem State.updCtx_ie (s : State) (c : Nat) (f : Ctx → Ctx) : (s.updCtx c f).ie = s.ie := rfl
@[simp] theorem State.updCtx_active (s : State) (c : Nat) (f : Ctx → Ctx) : (s.updCtx c f).active = s.active := rfl
@[simp] theorem State.updCtx_hist (s : State) (c : Nat) (f : Ctx → Ctx) : (s.updCtx c f).hist = s.hist := rfl
@[simp] theorem State.updCtx_cur (s : State) (c : Nat) (f : Ctx → Ctx) : (s.updCtx c f).cur = s.cur := rfl
@[simp] theorem State.updCtx_plan (s : State) (c : Nat) (f : Ctx → Ctx) : (s.updCtx c f).plan = s.plan := rfl
@[simp] theorem State.updCtx_tick (s : State) (c : Nat) (f : Ctx → Ctx) : (s.updCtx c f).tick = s.tick := rfl
@[simp] theorem State.updCtx_mutex (s : State) (c : Nat) (f : Ctx → Ctx) (k : Nat) : (s.updCtx c f).mutex k = s.mutex k := rfl
@[simp] theorem State.updCtx_flag (s : State) (c : Nat) (f : Ctx → Ctx) (k : Nat) : (s.updCtx c f).flag k = s.flag k := rfl
@[simp] theorem State.updCtx_prog (s : State) (c : Nat) (f : Ctx → Ctx) (k : Nat) : (s.updCtx c f).prog k = s.prog k := rfl
@[simp] theorem State.updCtx_cpl (s : State) (c : Nat) (f : Ctx → Ctx) (k : Nat) : (s.updCtx c f).cpl k = s.cpl k := rfl

/-! ### updMe -/

@[simp] theorem State.updMe_params (s : State) (f : Ctx → Ctx) : (s.updMe f).params = s.params := rfl
@[simp] theorem State.updMe_ctxs (s : State) (f : Ctx → Ctx) : (s.updMe f).ctxs = s.ctxs.modify s.cur f := rfl
@[simp] theorem State.updMe_mem (s : State) (f : Ctx → Ctx) : (s.updMe f).mem = s.mem := rfl
@[simp] theorem State.updMe_phase (s : State) (f : Ctx → Ctx) : (s.updMe f).phase = s.phase := rfl
@[simp] theorem State.updMe_idtr (s : State) (f : Ctx → Ctx) : (s.updMe f).idtr = s.idtr := rfl
@[simp] theorem State.updMe_mutexes (s : State) (f : Ctx → Ctx) : (s.updMe f).mutexes = s.mutexes := rfl
@[simp] theorem State.updMe_fault (s : State) (f : Ctx → Ctx) : (s.updMe f).fault = s.fault := rfl
@[simp] theorem State.updMe_refused (s : State) (f : Ctx → Ctx) : (s.updMe f).refused = s.refused := rfl
@[simp] theorem State.updMe_ie (s : State) (f : Ctx → Ctx) : (s.updMe f).ie = s.ie := rfl
@[simp] theorem State.updMe_active (s : State) (f : Ctx → Ctx) : (s.updMe f).active = s.active := rfl
@[simp] theorem State.updMe_hist (s : State) (f : Ctx → Ctx) : (s.updMe f).hist = s.hist := rfl
@[simp] theorem State.updMe_cur (s : State) (f : Ctx → Ctx) : (s.updMe f).cur = s.cur := rfl
@[simp] theorem State.updMe_plan (s : State) (f : Ctx → Ctx) : (s.updMe f).plan = s.plan := rfl
@[simp] theorem State.updMe_tick (s : State) (f : Ctx → Ctx) : (s.updMe f).tick = s.tick := rfl
@[simp] theorem State.updMe_mutex (s : State) (f : Ctx → Ctx) (k : Nat) : (s.updMe f).mutex k = s.mutex k := rfl
@[simp] theorem State.updMe_flag (s : State) (f : Ctx → Ctx) (k : Nat) : (s.updMe f).flag k = s.flag k := rfl
@[simp] theorem State.updMe_prog (s : State) (f : Ctx → Ctx) (k : Nat) : (s.updMe f).prog k = s.prog k := rfl
@[simp] theorem State.updMe_cpl (s : State) (f : Ctx → Ctx) (k : Nat) : (s.updMe f).cpl k = s.cpl k := rfl

/-! ### setSel -/

@[simp] theorem State.setSel_params (s : State) (x : Selector) : (s.setSel x).params = s.params := rfl
@[simp] theorem State.setSel_mem (s : State) (x : Selector) : (s.setSel x).mem = s.mem := rfl
@[simp] theorem State.setSel_phase (s : State) (x : Selector) : (s.setSel x).phase = s.phase := rfl
@[simp] theorem State.setSel_idtr (s : State) (x : Selector) : (s.setSel x).idtr = s.idtr := rfl
@[simp] theorem State.setSel_mutexes (s : State) (x : Selector) : (s.setSel x).mutexes = s.mutexes := rfl
@[simp] theorem State.setSel_fault (s : State) (x : Selector) : (s.setSel x).fault = s.fault := rfl
@[simp] theorem State.setSel_refused (s : State) (x : Selector) : (s.setSel x).refused = s.refused := rfl
@[simp] theorem State.setSel_ie (s : State) (x : Selector) : (s.setSel x).ie = s.ie := rfl
@[simp] theorem State.setSel_active (s : State) (x : Selector) : (s.setSel x).active = s.active := rfl
@[simp] theorem State.setSel_hist (s : State) (x : Selector) : (s.setSel x).hist = s.hist := rfl
@[simp] theorem State.setSel_cur (s : State) (x : Selector) : (s.setSel x).cur = s.cur := rfl
@[simp] theorem State.setSel_plan (s : State) (x : Selector) : (s.setSel x).plan = s.plan := rfl
@[simp] theorem State.setSel_tick (s : State) (x : Selector) : (s.setSel x).tick = s.tick := rfl
@[simp] theorem State.setSel_mutex (s : State) (x : Selector) (k : Nat) : (s.setSel x).mutex k = s.mutex k := rfl
@[simp] theorem State.setSel_flag (s : State) (x : Selector) (k : Nat) : (s.setSel x).flag k = s.flag k := rfl
@[simp] theorem State.setSel_prog (s : State) (x : Selector) (k : Nat) : (s.setSel x).prog k = s.prog k := rfl
@[simp] theorem State.setSel_cpl (s : State) (x : Selector) (k : Nat) : (s.setSel x).cpl k = s.cpl k := rfl

/-! ### setGe -/

@[simp] theorem State.setGe_params (s : State) (e : GateEntry) : (s.setGe e).params = s.params := rfl
@[simp] theorem State.setGe_mem (s : State) (e : GateEntry) : (s.setGe e).mem = s.mem := rfl
@[simp] theorem State.setGe_phase (s : State) (e : GateEntry) : (s.setGe e).phase = s.phase := rfl
@[simp] theorem State.setGe_idtr (s : State) (e : GateEntry) : (s.setGe e).idtr = s.idtr := rfl
@[simp] theorem State.setGe_mutexes (s : State) (e : GateEntry) : (s.setGe e).mutexes = s.mutexes := rfl
@[simp] theorem State.setGe_fault (s : State) (e : GateEntry) : (s.setGe e).fault = s.fault := rfl
@[simp] theorem State.setGe_refused (s : State) (e : GateEntry) : (s.setGe e).refused = s.refused := rfl
@[simp] theorem State.setGe_ie (s : State) (e : GateEntry) : (s.setGe e).ie = s.ie := rfl
@[simp] theorem State.setGe_active (s : State) (e : GateEntry) : (s.setGe e).active = s.active := rfl
@[simp] theorem State.setGe_hist (s : State) (e : GateEntry) : (s.setGe e).hist = s.hist := rfl
@[simp] theorem State.setGe_cur (s : State) (e : GateEntry) : (s.setGe e).cur = s.cur := rfl
@[simp] theorem State.setGe_plan (s : State) (e : GateEntry) : (s.setGe e).plan = s.plan := rfl
@[simp] theorem State.setGe_tick (s : State) (e : GateEntry) : (s.setGe e).tick = s.tick := rfl
@[simp] theorem State.setGe_mutex (s : State) (e : GateEntry) (k : Nat) : (s.setGe e).mutex k = s.mutex k := rfl
@[simp] theorem State.setGe_flag (s : State) (e : GateEntry) (k : Nat) : (s.setGe e).flag k = s.flag k := rfl
@[simp] theorem State.setGe_prog (s : State) (e : GateEntry) (k : Nat) : (s.setGe e).prog k = s.prog k := rfl
@[simp] theorem State.setGe_cpl (s : State) (e : GateEntry) (k : Nat) : (s.setGe e).cpl k = s.cpl k := rfl

/-! ### setRes -/

@[simp] theorem State.setRes_params (s : State) (x : Payload) : (s.setRes x).params = s.params := rfl
@[simp] theorem State.setRes_mem (s : State) (x : Payload) : (s.setRes x).mem = s.mem := rfl
@[simp] theorem State.setRes_phase (s : State) (x : Payload) : (s.setRes x).phase = s.phase := rfl
@[simp] theorem State.setRes_idtr (s : State) (x : Payload) : (s.setRes x).idtr = s.idtr := rfl
@[simp] theorem State.setRes_mutexes (s : State) (x : Payload) : (s.setRes x).mutexes = s.mutexes := rfl
@[simp] theorem State.setRes_fault (s : State) (x : Payload) : (s.setRes x).fault = s.fault := rfl
@[simp] theorem State.setRes_refused (s : State) (x : Payload) : (s.setRes x).refused = s.refused := rfl
@[simp] theorem State.setRes_ie (s : State) (x : Payload) : (s.setRes x).ie = s.ie := rfl
@[simp] theorem State.setRes_active (s : State) (x : Payload) : (s.setRes x).active = s.active := rfl
@[simp] theorem State.setRes_hist (s : State) (x : Payload) : (s.setRes x).hist = s.hist := rfl
@[simp] theorem State.setRes_cur (s : State) (x : Payload) : (s.setRes x).cur = s.cur := rfl
@[simp] theorem State.setRes_plan (s : State) (x : Payload) : (s.setRes x).plan = s.plan := rfl
@[simp] theorem State.setRes_tick (s : State) (x : Payload) : (s.setRes x).tick = s.tick := rfl
@[simp] theorem State.setRes_mutex (s : State) (x : Payload) (k : Nat) : (s.setRes x).mutex k = s.mutex k := rfl
@[simp] theorem State.setRes_flag (s : State) (x : Payload) (k : Nat) : (s.setRes x).flag k = s.flag k := rfl
@[simp] theorem State.setRes_prog (s : State) (x : Payload) (k : Nat) : (s.setRes x).prog k = s.prog k := rfl
@[simp] theorem State.setRes_cpl (s : State) (x : Payload) (k : Nat) : (s.setRes x).cpl k = s.cpl k := rfl

/-! ### setHandle -/

@[simp] theorem State.setHandle_params (s : State) (v : Nat) : (s.setHandle v).params = s.params := rfl
@[simp] theorem State.setHandle_mem (s : State) (v : Nat) : (s.setHandle v).mem = s.mem := rfl
@[simp] theorem State.setHandle_phase (s : State) (v : Nat) : (s.setHandle v).phase = s.phase := rfl
@[simp] theorem State.setHandle_idtr (s : State) (v : Nat) : (s.setHandle v).idtr = s.idtr := rfl
@[simp] theorem State.setHandle_mutexes (s : State) (v : Nat) : (s.setHandle v).mutexes = s.mutexes := rfl
@[simp] theorem State.setHandle_fault (s : State) (v : Nat) : (s.setHandle v).fault = s.fault := rfl
@[simp] theorem State.setHandle_refused (s : State) (v : Nat) : (s.setHandle v).refused = s.refused := rfl
@[simp] theorem State.setHandle_ie (s : State) (v : Nat) : (s.setHandle v).ie = s.ie := rfl
@[simp] theorem State.setHandle_active (s : State) (v : Nat) : (s.setHandle v).active = s.active := rfl
@[simp] theorem State.setHandle_hist (s : State) (v : Nat) : (s.setHandle v).hist = s.hist := rfl
@[simp] theorem State.setHandle_cur (s : State) (v : Nat) : (s.setHandle v).cur = s.cur := rfl
@[simp] theorem State.setHandle_plan (s : State) (v : Nat) : (s.setHandle v).plan = s.plan := rfl
@[simp] theorem State.setHandle_tick (s : State) (v : Nat) : (s.setHandle v).tick = s.tick := rfl
@[simp] theorem State.setHandle_mutex (s : State) (v : Nat) (k : Nat) : (s.setHandle v).mutex k = s.mutex k := rfl
@[simp] theorem State.setHandle_flag (s : State) (v : Nat) (k : Nat) : (s.setHandle v).flag k = s.flag k := rfl
@[simp] theorem State.setHandle_prog (s : State) (v : Nat) (k : Nat) : (s.setHandle v).prog k = s.prog k := rfl
@[simp] theorem State.setHandle_cpl (s : State) (v : Nat) (k : Nat) : (s.setHandle v).cpl k = s.cpl k := rfl

/-! ### advance -/

@[simp] theorem State.advance_params (s : State) : (s.advance).params = s.params := rfl
@[simp] theorem State.advance_mem (s : State) : (s.advance).mem = s.mem := rfl
@[simp] theorem State.advance_phase (s : State) : (s.advance).phase = s.phase := rfl
@[simp] theorem State.advance_idtr (s : State) : (s.advance).idtr = s.idtr := rfl
@[simp] theorem State.advance_mutexes (s : State) : (s.advance).mutexes = s.mutexes := rfl
@[simp] theorem State.advance_fault (s : State) : (s.advance).fault = s.fault := rfl
@[simp] theorem State.advance_refused (s : State) : (s.advance).refused = s.refused := rfl
@[simp] theorem State.advance_ie (s : State) : (s.advance).ie = s.ie := rfl
@[simp] theorem State.advance_active (s : State) : (s.advance).active = s.active := rfl
@[simp] theorem State.advance_hist (s : State) : (s.advance).hist = s.hist := rfl
@[simp] theorem State.advance_cur (s : State) : (s.advance).cur = s.cur := rfl
@[simp] theorem State.advance_plan (s : State) : (s.advance).plan = s.plan := rfl
@[simp] theorem State.advance_tick (s : State) : (s.advance).tick = s.tick := rfl
@[simp] theorem State.advance_mutex (s : State) (k : Nat) : (s.advance).mutex k = s.mutex k := rfl
@[simp] theorem State.advance_flag (s : State) (k : Nat) : (s.advance).flag k = s.flag k := rfl
@[simp] theorem State.advance_prog (s : State) (k : Nat) : (s.advance).prog k = s.prog k := rfl
@[simp] theorem State.advance_cpl (s : State) (k : Nat) : (s.advance).cpl k = s.cpl k := rfl

/-! ### clearHandles -/

@[simp] theorem State.clearHandles_params (s : State) : (s.clearHandles).params = s.params := rfl
@[simp] theorem State.clearHandles_ctxs (s : State) : (s.clearHandles).ctxs = s.ctxs.map fun k => { k with handle := none } := rfl
@[simp] theorem State.clearHandles_mem (s : State) : (s.clearHandles).mem = s.mem := rfl
@[simp] theorem State.clearHandles_phase (s : State) : (s.clearHandles).phase = s.phase := rfl
@[simp] theorem State.clearHandles_idtr (s : State) : (s.clearHandles).idtr = s.idtr := rfl
@[simp] theorem State.clearHandles_mutexes (s : State) : (s.clearHandles).mutexes = s.mutexes := rfl
@[simp] theorem State.clearHandles_fault (s : State) : (s.clearHandles).fault = s.fault := rfl
@[simp] theorem State.clearHandles_refused (s : State) : (s.clearHandles).refused = s.refused := rfl
@[simp] theorem State.clearHandles_ie (s : State) : (s.clearHandles).ie = s.ie := rfl
@[simp] theorem State.clearHandles_active (s : State) : (s.clearHandles).active = s.active := rfl
@[simp] theorem State.clearHandles_hist (s : State) : (s.clearHandles).hist = s.hist := rfl
@[simp] theorem State.clearHandles_cur (s : State) : (s.clearHandles).cur = s.cur := rfl
@[simp] theorem State.clearHandles_plan (s : State) : (s.clearHandles).plan = s.plan := rfl
@[simp] theorem State.clearHandles_tick (s : State) : (s.clearHandles).tick = s.tick := rfl
@[simp] theorem State.clearHandles_mutex (s : State) (k : Nat) : (s.clearHandles).mutex k = s.mutex k := rfl
@[simp] theorem State.clearHandles_flag (s : State) (k : Nat) : (s.clearHandles).flag k = s.flag k := rfl
@[simp] theorem State.clearHandles_prog (s : State) (k : Nat) : (s.clearHandles).prog k = s.prog k := rfl
@[simp] theorem State.clearHandles_cpl (s : State) (k : Nat) : (s.clearHandles).cpl k = s.cpl k := rfl

/-! ### updMutex -/

@[simp] theorem State.updMutex_params (s : State) (m : Nat) (f : Mutex → Mutex) : (s.updMutex m f).params = s.params := rfl
@[simp] theorem State.updMutex_ctxs (s : State) (m : Nat) (f : Mutex → Mutex) : (s.updMutex m f).ctxs = s.ctxs := rfl
@[simp] theorem State.updMutex_mem (s : State) (m : Nat) (f : Mutex → Mutex) : (s.updMutex m f).mem = s.mem := rfl
@[simp] theorem State.updMutex_phase (s : State) (m : Nat) (f : Mutex → Mutex) : (s.updMutex m f).phase = s.phase := rfl
@[simp] theorem State.updMutex_idtr (s : State) (m : Nat) (f : Mutex → Mutex) : (s.updMutex m f).idtr = s.idtr := rfl
@[simp] theorem State.updMutex_mutexes (s : State) (m : Nat) (f : Mutex → Mutex) : (s.updMutex m f).mutexes = s.mutexes.modify m f := rfl
@[simp] theorem State.updMutex_fault (s : State) (m : Nat) (f : Mutex → Mutex) : (s.updMutex m f).fault = s.fault := rfl
@[simp] theorem State.updMutex_refused (s : State) (m : Nat) (f : Mutex → Mutex) : (s.updMutex m f).refused = s.refused := rfl
@[simp] theorem State.updMutex_ie (s : State) (m : Nat) (f : Mutex → Mutex) : (s.updMutex m f).ie = s.ie := rfl
@[simp] theorem State.updMutex_active (s : State) (m : Nat) (f : Mutex → Mutex) : (s.updMutex m f).active = s.active := rfl
@[simp] theorem State.updMutex_hist (s : State) (m : Nat) (f : Mutex → Mutex) : (s.updMutex m f).hist = s.hist := rfl
@[simp] theorem State.updMutex_cur (s : State) (m : Nat) (f : Mutex → Mutex) : (s.updMutex m f).cur = s.cur := rfl
@[simp] theorem State.updMutex_plan (s : State) (m : Nat) (f : Mutex → Mutex) : (s.updMutex m f).plan = s.plan := rfl
@[simp] theorem State.updMutex_tick (s : State) (m : Nat) (f : Mutex → Mutex) : (s.updMutex m f).tick = s.tick := rfl
@[simp] theorem State.updMutex_ctx (s : State) (m : Nat) (f : Mutex → Mutex) (k : Nat) : (s.updMutex m f).ctx k = s.ctx k := rfl
@[simp] theorem State.updMutex_me (s : State) (m : Nat) (f : Mutex → Mutex) : (s.updMutex m f).me = s.me := rfl
@[simp] theorem State.updMutex_prog (s : State) (m : Nat) (f : Mutex → Mutex) (k : Nat) : (s.updMutex m f).prog k = s.prog k := rfl
@[simp] theorem State.updMutex_cpl (s : State) (m : Nat) (f : Mutex → Mutex) (k : Nat) : (s.updMutex m f).cpl k = s.cpl k := rfl
@[simp] theorem State.updMutex_fetch (s : State) (m : Nat) (f : Mutex → Mutex) (k : Nat) : (s.updMutex m f).fetch k = s.fetch k := rfl

/-! ### release -/

@[simp] theorem State.release_params (s : State) (m : Nat) : (s.release m).params = s.params := rfl
@[simp] theorem State.release_ctxs (s : State) (m : Nat) : (s.release m).ctxs = s.ctxs := rfl
@[simp] theorem State.release_mem (s : State) (m : Nat) : (s.release m).mem = s.mem := rfl
@[simp] theorem State.release_phase (s : State) (m : Nat) : (s.release m).phase = s.phase := rfl
@[simp] theorem State.release_idtr (s : State) (m : Nat) : (s.release m).idtr = s.idtr := rfl
@[simp] theorem State.release_fault (s : State) (m : Nat) : (s.release m).fault = s.fault := rfl
@[simp] theorem State.release_refused (s : State) (m : Nat) : (s.release m).refused = s.refused := rfl
@[simp] theorem State.release_ie (s : State) (m : Nat) : (s.release m).ie = s.ie := rfl
@[simp] theorem State.release_active (s : State) (m : Nat) : (s.release m).active = s.active := rfl
@[simp] theorem State.release_hist (s : State) (m : Nat) : (s.release m).hist = s.hist := rfl
@[simp] theorem State.release_cur (s : State) (m : Nat) : (s.release m).cur = s.cur := rfl
@[simp] theorem State.release_plan (s : State) (m : Nat) : (s.release m).plan = s.plan := rfl
@[simp] theorem State.release_tick (s : State) (m : Nat) : (s.release m).tick = s.tick := rfl
@[simp] theorem State.release_ctx (s : State) (m : Nat) (k : Nat) : (s.release m).ctx k = s.ctx k := rfl
@[simp] theorem State.release_me (s : State) (m : Nat) : (s.release m).me = s.me := rfl
@[simp] theorem State.release_prog (s : State) (m : Nat) (k : Nat) : (s.release m).prog k = s.prog k := rfl
@[simp] theorem State.release_cpl (s : State) (m : Nat) (k : Nat) : (s.release m).cpl k = s.cpl k := rfl
@[simp] theorem State.release_fetch (s : State) (m : Nat) (k : Nat) : (s.release m).fetch k = s.fetch k := rfl

/-! ### setPayload -/

@[simp] theorem State.setPayload_params (s : State) (m : Nat) (d : Payload) : (s.setPayload m d).params = s.params := rfl
@[simp] theorem State.setPayload_ctxs (s : State) (m : Nat) (d : Payload) : (s.setPayload m d).ctxs = s.ctxs := rfl
@[simp] theorem State.setPayload_mem (s : State) (m : Nat) (d : Payload) : (s.setPayload m d).mem = s.mem := rfl
@[simp] theorem State.setPayload_phase (s : State) (m : Nat) (d : Payload) : (s.setPayload m d).phase = s.phase := rfl
@[simp] theorem State.setPayload_idtr (s : State) (m : Nat) (d : Payload) : (s.setPayload m d).idtr = s.idtr := rfl
@[simp] theorem State.setPayload_fault (s : State) (m : Nat) (d : Payload) : (s.setPayload m d).fault = s.fault := rfl
@[simp] theorem State.setPayload_refused (s : State) (m : Nat) (d : Payload) : (s.setPayload m d).refused = s.refused := rfl
@[simp] theorem State.setPayload_ie (s : State) (m : Nat) (d : Payload) : (s.setPayload m d).ie = s.ie := rfl
@[simp] theorem State.setPayload_active (s : State) (m : Nat) (d : Payload) : (s.setPayload m d).active = s.active := rfl
@[simp] theorem State.setPayload_hist (s : State) (m : Nat) (d : Payload) : (s.setPayload m d).hist = s.hist := rfl
@[simp] theorem State.setPayload_cur (s : State) (m : Nat) (d : Payload) : (s.setPayload m d).cur = s.cur := rfl
@[simp] theorem State.setPayload_plan (s : State) (m : Nat) (d : Payload) : (s.setPayload m d).plan = s.plan := rfl
@[simp] theorem State.setPayload_tick (s : State) (m : Nat) (d : Payload) : (s.setPayload m d).tick = s.tick := rfl
@[simp] theorem State.setPayload_ctx (s : State) (m : Nat) (d : Payload) (k : Nat) : (s.setPayload m d).ctx k = s.ctx k := rfl
@[simp] theorem State.setPayload_me (s : State) (m : Nat) (d : Payload) : (s.setPayload m d).me = s.me := rfl
@[simp] theorem State.setPayload_prog (s : State) (m : Nat) (d : Payload) (k : Nat) : (s.setPayload m d).prog k = s.prog k := rfl
@[simp] theorem State.setPayload_cpl (s : State) (m : Nat) (d : Payload) (k : Nat) : (s.setPayload m d).cpl k = s.cpl k := rfl
@[simp] theorem State.setPayload_fetch (s : State) (m : Nat) (d : Payload) (k : Nat) : (s.setPayload m d).fetch k = s.fetch k := rfl

/-! ### setPhase -/

@[simp] theorem State.setPhase_params (s : State) (ph : Phase) : (s.setPhase ph).params = s.params := rfl
@[simp] theorem State.setPhase_ctxs (s : State) (ph : Phase) : (s.setPhase ph).ctxs = s.ctxs := rfl
@[simp] theorem State.setPhase_mem (s : State) (ph : Phase) : (s.setPhase ph).mem = s.mem := rfl
@[simp] theorem State.setPhase_phase (s : State) (ph : Phase) : (s.setPhase ph).phase = ph := rfl
@[simp] theorem State.setPhase_idtr (s : State) (ph : Phase) : (s.setPhase ph).idtr = s.idtr := rfl
@[simp] theorem State.setPhase_mutexes (s : State) (ph : Phase) : (s.setPhase ph).mutexes = s.mutexes := rfl
@[simp] theorem State.setPhase_fault (s : State) (ph : Phase) : (s.setPhase ph).fault = s.fault := rfl
@[simp] theorem State.setPhase_refused (s : State) (ph : Phase) : (s.setPhase ph).refused = s.refused := rfl
@[simp] theorem State.setPhase_ie (s : State) (ph : Phase) : (s.setPhase ph).ie = s.ie := rfl
@[simp] theorem State.setPhase_active (s : State) (ph : Phase) : (s.setPhase ph).active = s.active := rfl
@[simp] theorem State.setPhase_hist (s : State) (ph : Phase) : (s.setPhase ph).hist = s.hist := rfl
@[simp] theorem State.setPhase_cur (s : State) (ph : Phase) : (s.setPhase ph).cur = s.cur := rfl
@[simp] theorem State.setPhase_plan (s : State) (ph : Phase) : (s.setPhase ph).plan = s.plan := rfl
@[simp] theorem State.setPhase_tick (s : State) (ph : Phase) : (s.setPhase ph).tick = s.tick := rfl
@[simp] theorem State.setPhase_ctx (s : State) (ph : Phase) (k : Nat) : (s.setPhase ph).ctx k = s.ctx k := rfl
@[simp] theorem State.setPhase_me (s : State) (ph : Phase) : (s.setPhase ph).me = s.me := rfl
@[simp] theorem State.setPhase_mutex (s : State) (ph : Phase) (k : Nat) : (s.setPhase ph).mutex k = s.mutex k := rfl
@[simp] theorem State.setPhase_flag (s : State) (ph : Phase) (k : Nat) : (s.setPhase ph).flag k = s.flag k := rfl
@[simp] theorem State.setPhase_prog (s : State) (ph : Phase) (k : Nat) : (s.setPhase ph).prog k = s.prog k := rfl
@[simp] theorem State.setPhase_cpl (s : State) (ph : Phase) (k : Nat) : (s.setPhase ph).cpl k = s.cpl k := rfl
@[simp] theorem State.setPhase_fetch (s : State) (ph : Phase) (k : Nat) : (s.setPhase ph).fetch k = s.fetch k := rfl

/-! ### setActive -/

@[simp] theorem State.setActive_params (s : State) (l : List Nat) : (s.setActive l).params = s.params := rfl
@[simp] theorem State.setActive_ctxs (s : State) (l : List Nat) : (s.setActive l).ctxs = s.ctxs := rfl
@[simp] theorem State.setActive_mem (s : State) (l : List Nat) : (s.setActive l).mem = s.mem := rfl
@[simp] theorem State.setActive_phase (s : State) (l : List Nat) : (s.setActive l).phase = s.phase := rfl
@[simp] theorem State.setActive_idtr (s : State) (l : List Nat) : (s.setActive l).idtr = s.idtr := rfl
@[simp] theorem State.setActive_mutexes (s : State) (l : List Nat) : (s.setActive l).mutexes = s.mutexes := rfl
@[simp] theorem State.setActive_fault (s : State) (l : List Nat) : (s.setActive l).fault = s.fault := rfl
@[simp] theorem State.setActive_refused (s : State) (l : List Nat) : (s.setActive l).refused = s.refused := rfl
@[simp] theorem State.setActive_ie (s : State) (l : List Nat) : (s.setActive l).ie = s.ie := rfl
@[simp] theorem State.setActive_active (s : State) (l : List Nat) : (s.setActive l).active = l := rfl
@[simp] theorem State.setActive_hist (s : State) (l : List Nat) : (s.setActive l).hist = s.hist := rfl
@[simp] theorem State.setActive_cur (s : State) (l : List Nat) : (s.setActive l).cur = s.cur := rfl
@[simp] theorem State.setActive_plan (s : State) (l : List Nat) : (s.setActive l).plan = s.plan := rfl
@[simp] theorem State.setActive_tick (s : State) (l : List Nat) : (s.setActive l).tick = s.tick := rfl
@[simp] theorem State.setActive_ctx (s : State) (l : List Nat) (k : Nat) : (s.setActive l).ctx k = s.ctx k := rfl
@[simp] theorem State.setActive_me (s : State) (l : List Nat) : (s.setActive l).me = s.me := rfl
@[simp] theorem State.setActive_mutex (s : State) (l : List Nat) (k : Nat) : (s.setActive l).mutex k = s.mutex k := rfl
@[simp] theorem State.setActive_flag (s : State) (l : List Nat) (k : Nat) : (s.setActive l).flag k = s.flag k := rfl
@[simp] theorem State.setActive_prog (s : State) (l : List Nat) (k : Nat) : (s.setActive l).prog k = s.prog k := rfl
@[simp] theorem State.setActive_cpl (s : State) (l : List Nat) (k : Nat) : (s.setActive l).cpl k = s.cpl k := rfl
@[simp] theorem State.setActive_fetch (s : State) (l : List Nat) (k : Nat) : (s.setActive l).fetch k = s.fetch k := rfl

/-! ### setIe -/

@[simp] theorem State.setIe_params (s : State) (b : Bool) : (s.setIe b).params = s.params := rfl
@[simp] theorem State.setIe_ctxs (s : State) (b : Bool) : (s.setIe b).ctxs = s.ctxs := rfl
@[simp] theorem State.setIe_mem (s : State) (b : Bool) : (s.setIe b).mem = s.mem := rfl
@[simp] theorem State.setIe_phase (s : State) (b : Bool) : (s.setIe b).phase = s.phase := rfl
@[simp] theorem State.setIe_idtr (s : State) (b : Bool) : (s.setIe b).idtr = s.idtr := rfl
@[simp] theorem State.setIe_mutexes (s : State) (b : Bool) : (s.setIe b).mutexes = s.mutexes := rfl
@[simp] theorem State.setIe_fault (s : State) (b : Bool) : (s.setIe b).fault = s.fault := rfl
@[simp] theorem State.setIe_refused (s : State) (b : Bool) : (s.setIe b).refused = s.refused := rfl
@[simp] theorem State.setIe_ie (s : State) (b : Bool) : (s.setIe b).ie = b := rfl
@[simp] theorem State.setIe_active (s : State) (b : Bool) : (s.setIe b).active = s.active := rfl
@[simp] theorem State.setIe_hist (s : State) (b : Bool) : (s.setIe b).hist = s.hist := rfl
@[simp] theorem State.setIe_cur (s : State) (b : Bool) : (s.setIe b).cur = s.cur := rfl
@[simp] theorem State.setIe_plan (s : State) (b : Bool) : (s.setIe b).plan = s.plan := rfl
@[simp] theorem State.setIe_tick (s : State) (b : Bool) : (s.setIe b).tick = s.tick := rfl
@[simp] theorem State.setIe_ctx (s : State) (b : Bool) (k : Nat) : (s.setIe b).ctx k = s.ctx k := rfl
@[simp] theorem State.setIe_me (s : State) (b : Bool) : (s.setIe b).me = s.me := rfl
@[simp] theorem State.setIe_mutex (s : State) (b : Bool) (k : Nat) : (s.setIe b).mutex k = s.mutex k := rfl
@[simp] theorem State.setIe_flag (s : State) (b : Bool) (k : Nat) : (s.setIe b).flag k = s.flag k := rfl
@[simp] theorem State.setIe_prog (s : State) (b : Bool) (k : Nat) : (s.setIe b).prog k = s.prog k := rfl
@[simp] theorem State.setIe_cpl (s : State) (b : Bool) (k : Nat) : (s.setIe b).cpl k = s.cpl k := rfl
@[simp] theorem State.setIe_fetch (s : State) (b : Bool) (k : Nat) : (s.setIe b).fetch k = s.fetch k := rfl

/-! ### refuse -/

@[simp] theorem State.refuse_params (s : State) : (s.refuse).params = s.params := rfl
@[simp] theorem State.refuse_ctxs (s : State) : (s.refuse).ctxs = s.ctxs := rfl
@[simp] theorem State.refuse_mem (s : State) : (s.refuse).mem = s.mem := rfl
@[simp] theorem State.refuse_phase (s : State) : (s.refuse).phase = s.phase := rfl
@[simp] theorem State.refuse_idtr (s : State) : (s.refuse).idtr = s.idtr := rfl
@[simp] theorem State.refuse_mutexes (s : State) : (s.refuse).mutexes = s.mutexes := rfl
@[simp] theorem State.refuse_fault (s : State) : (s.refuse).fault = s.fault := rfl
@[simp] theorem State.refuse_refused (s : State) : (s.refuse).refused = true := rfl
@[simp] theorem State.refuse_ie (s : State) : (s.refuse).ie = s.ie := rfl
@[simp] theorem State.refuse_active (s : State) : (s.refuse).active = s.active := rfl
@[simp] theorem State.refuse_hist (s : State) : (s.refuse).hist = s.hist := rfl
@[simp] theorem State.refuse_cur (s : State) : (s.refuse).cur = s.cur := rfl
@[simp] theorem State.refuse_plan (s : State) : (s.refuse).plan = s.plan := rfl
@[simp] theorem State.refuse_tick (s : State) : (s.refuse).tick = s.tick := rfl
@[simp] theorem State.refuse_ctx (s : State) (k : Nat) : (s.refuse).ctx k = s.ctx k := rfl
@[simp] theorem State.refuse_me (s : State) : (s.refuse).me = s.me := rfl
@[simp] theorem State.refuse_mutex (s : State) (k : Nat) : (s.refuse).mutex k = s.mutex k := rfl
@[simp] theorem State.refuse_flag (s : State) (k : Nat) : (s.refuse).flag k = s.flag k := rfl
@[simp] theorem State.refuse_prog (s : State) (k : Nat) : (s.refuse).prog k = s.prog k := rfl
@[simp] theorem State.refuse_cpl (s : State) (k : Nat) : (s.refuse).cpl k = s.cpl k := rfl
@[simp] theorem State.refuse_fetch (s : State) (k : Nat) : (s.refuse).fetch k = s.fetch k := rfl

/-! ### record -/

@[simp] theorem State.record_params (s : State) (e : Event) : (s.record e).params = s.params := rfl
@[simp] theorem State.record_ctxs (s : State) (e : Event) : (s.record e).ctxs = s.ctxs := rfl
@[simp] theorem State.record_mem (s : State) (e : Event) : (s.record e).mem = s.mem := rfl
@[simp] theorem State.record_phase (s : State) (e : Event) : (s.record e).phase = s.phase := rfl
@[simp] theorem State.record_idtr (s : State) (e : Event) : (s.record e).idtr = s.idtr := rfl
@[simp] theorem State.record_mutexes (s : State) (e : Event) : (s.record e).mutexes = s.mutexes := rfl
@[simp] theorem State.record_fault (s : State) (e : Event) : (s.record e).fault = s.fault := rfl
@[simp] theorem State.record_refused (s : State) (e : Event) : (s.record e).refused = s.refused := rfl
@[simp] theorem State.record_ie (s : State) (e : Event) : (s.record e).ie = s.ie := rfl
@[simp] theorem State.record_active (s : State) (e : Event) : (s.record e).active = s.active := rfl
@[simp] theorem State.record_hist (s : State) (e : Event) : (s.record e).hist = s.hist ++ [e] := rfl
@[simp] theorem State.record_cur (s : State) (e : Event) : (s.record e).cur = s.cur := rfl
@[simp] theorem State.record_plan (s : State) (e : Event) : (s.record e).plan = s.plan := rfl
@[simp] theorem State.record_tick (s : State) (e : Event) : (s.record e).tick = s.tick := rfl
@[simp] theorem State.record_ctx (s : State) (e : Event) (k : Nat) : (s.record e).ctx k = s.ctx k := rfl
@[simp] theorem State.record_me (s : State) (e : Event) : (s.record e).me = s.me := rfl
@[simp] theorem State.record_mutex (s : State) (e : Event) (k : Nat) : (s.record e).mutex k = s.mutex k := rfl
@[simp] theorem State.record_flag (s : State) (e : Event) (k : Nat) : (s.record e).flag k = s.flag k := rfl
@[simp] theorem State.record_prog (s : State) (e : Event) (k : Nat) : (s.record e).prog k = s.prog k := rfl
@[simp] theorem State.record_cpl (s : State) (e : Event) (k : Nat) : (s.record e).cpl k = s.cpl k := rfl
@[simp] theorem State.record_fetch (s : State) (e : Event) (k : Nat) : (s.record e).fetch k = s.fetch k := rfl

/-! ### writeTable -/

@[simp] theorem State.writeTable_params (s : State) (a n v : Nat) : (s.writeTable a n v).params = s.params := rfl
@[simp] theorem State.writeTable_ctxs (s : State) (a n v : Nat) : (s.writeTable a n v).ctxs = s.ctxs := rfl
@[simp] theorem State.writeTable_mem (s : State) (a n v : Nat) : (s.writeTable a n v).mem = Memory.writeLE s.mem a n v := rfl
@[simp] theorem State.writeTable_phase (s : State) (a n v : Nat) : (s.writeTable a n v).phase = s.phase := rfl
@[simp] theorem State.writeTable_idtr (s : State) (a n v : Nat) : (s.writeTable a n v).idtr = s.idtr := rfl
@[simp] theorem State.writeTable_mutexes (s : State) (a n v : Nat) : (s.writeTable a n v).mutexes = s.mutexes := rfl
@[simp] theorem State.writeTable_fault (s : State) (a n v : Nat) : (s.writeTable a n v).fault = s.fault := rfl
@[simp] theorem State.writeTable_refused (s : State) (a n v : Nat) : (s.writeTable a n v).refused = s.refused := rfl
@[simp] theorem State.writeTable_ie (s : State) (a n v : Nat) : (s.writeTable a n v).ie = s.ie := rfl
@[simp] theorem State.writeTable_active (s : State) (a n v : Nat) : (s.writeTable a n v).active = s.active := rfl
@[simp] theorem State.writeTable_hist (s : State) (a n v : Nat) : (s.writeTable a n v).hist = s.hist ++ [.tableWrite a n v] := rfl
@[simp] theorem State.writeTable_cur (s : State) (a n v : Nat) : (s.writeTable a n v).cur = s.cur := rfl
@[simp] theorem State.writeTable_plan (s : State) (a n v : Nat) : (s.writeTable a n v).plan = s.plan := rfl
@[simp] theorem State.writeTable_tick (s : State) (a n v : Nat) : (s.writeTable a n v).tick = s.tick := rfl
@[simp] theorem State.writeTable_ctx (s : State) (a n v : Nat) (k : Nat) : (s.writeTable a n v).ctx k = s.ctx k := rfl
@[simp] theorem State.writeTable_me (s : State) (a n v : Nat) : (s.writeTable a n v).me = s.me := rfl
@[simp] theorem State.writeTable_mutex (s : State) (a n v : Nat) (k : Nat) : (s.writeTable a n v).mutex k = s.mutex k := rfl
@[simp] theorem State.writeTable_flag (s : State) (a n v : Nat) (k : Nat) : (s.writeTable a n v).flag k = s.flag k := rfl
@[simp] theorem State.writeTable_prog (s : State) (a n v : Nat) (k : Nat) : (s.writeTable a n v).prog k = s.prog k := rfl
@[simp] theorem State.writeTable_cpl (s : State) (a n v : Nat) (k : Nat) : (s.writeTable a n v).cpl k = s.cpl k := rfl
@[simp] theorem State.writeTable_fetch (s : State) (a n v : Nat) (k : Nat) : (s.writeTable a n v).fetch k = s.fetch k := rfl

/-! ### clearTable -/

@[simp] theorem State.clearTable_params (s : State) : (s.clearTable).params = s.params := rfl
@[simp] theorem State.clearTable_ctxs (s : State) : (s.clearTable).ctxs = s.ctxs := rfl
@[simp] theorem State.clearTable_mem (s : State) : (s.clearTable).mem = Memory.clear s.mem s.params.tbase.toNat s.params.tableBytes := rfl
@[simp] theorem State.clearTable_phase (s : State) : (s.clearTable).phase = s.phase := rfl
@[simp] theorem State.clearTable_idtr (s : State) : (s.clearTable).idtr = s.idtr := rfl
@[simp] theorem State.clearTable_mutexes (s : State) : (s.clearTable).mutexes = s.mutexes := rfl
@[simp] theorem State.clearTable_fault (s : State) : (s.clearTable).fault = s.fault := rfl
@[simp] theorem State.clearTable_refused (s : State) : (s.clearTable).refused = s.refused := rfl
@[simp] theorem State.clearTable_ie (s : State) : (s.clearTable).ie = s.ie := rfl
@[simp] theorem State.clearTable_active (s : State) : (s.clearTable).active = s.active := rfl
@[simp] theorem State.clearTable_hist (s : State) : (s.clearTable).hist = s.hist ++ [.tableWrite s.params.tbase.toNat s.params.tableBytes 0] := rfl
@[simp] theorem State.clearTable_cur (s : State) : (s.clearTable).cur = s.cur := rfl
@[simp] theorem State.clearTable_plan (s : State) : (s.clearTable).plan = s.plan := rfl
@[simp] theorem State.clearTable_tick (s : State) : (s.clearTable).tick = s.tick := rfl
@[simp] theorem State.clearTable_ctx (s : State) (k : Nat) : (s.clearTable).ctx k = s.ctx k := rfl
@[simp] theorem State.clearTable_me (s : State) : (s.clearTable).me = s.me := rfl
@[simp] theorem State.clearTable_mutex (s : State) (k : Nat) : (s.clearTable).mutex k = s.mutex k := rfl
@[simp] theorem State.clearTable_flag (s : State) (k : Nat) : (s.clearTable).flag k = s.flag k := rfl
@[simp] theorem State.clearTable_prog (s : State) (k : Nat) : (s.clearTable).prog k = s.prog k := rfl
@[simp] theorem State.clearTable_cpl (s : State) (k : Nat) : (s.clearTable).cpl k = s.cpl k := rfl
@[simp] theorem State.clearTable_fetch (s : State) (k : Nat) : (s.clearTable).fetch k = s.fetch k := rfl

/-! ### raise -/

@[simp] theorem State.raise_params (s : State) (code : FaultCode) (info : BitVec 32) : (s.raise code info).params = s.params := rfl
@[simp] theorem State.raise_ctxs (s : State) (code : FaultCode) (info : BitVec 32) : (s.raise code info).ctxs = s.ctxs := rfl
@[simp] theorem State.raise_mem (s : State) (code : FaultCode) (info : BitVec 32) : (s.raise code info).mem = s.mem := rfl
@[simp] theorem State.raise_phase (s : State) (code : FaultCode) (info : BitVec 32) : (s.raise code info).phase = s.phase := rfl
@[simp] theorem State.raise_idtr (s : State) (code : FaultCode) (info : BitVec 32) : (s.raise code info).idtr = s.idtr := rfl
@[simp] theorem State.raise_mutexes (s : State) (code : FaultCode) (info : BitVec 32) : (s.raise code info).mutexes = s.mutexes := rfl
@[simp] theorem State.raise_fault (s : State) (code : FaultCode) (info : BitVec 32) : (s.raise code info).fault = some ⟨code, none, .ctx s.cur, some s.me.pc, s.fetch s.cur, info⟩ := rfl
@[simp] theorem State.raise_refused (s : State) (code : FaultCode) (info : BitVec 32) : (s.raise code info).refused = s.refused := rfl
@[simp] theorem State.raise_ie (s : State) (code : FaultCode) (info : BitVec 32) : (s.raise code info).ie = s.ie := rfl
@[simp] theorem State.raise_active (s : State) (code : FaultCode) (info : BitVec 32) : (s.raise code info).active = s.active := rfl
@[simp] theorem State.raise_hist (s : State) (code : FaultCode) (info : BitVec 32) : (s.raise code info).hist = s.hist := rfl
@[simp] theorem State.raise_cur (s : State) (code : FaultCode) (info : BitVec 32) : (s.raise code info).cur = s.cur := rfl
@[simp] theorem State.raise_plan (s : State) (code : FaultCode) (info : BitVec 32) : (s.raise code info).plan = s.plan := rfl
@[simp] theorem State.raise_tick (s : State) (code : FaultCode) (info : BitVec 32) : (s.raise code info).tick = s.tick := rfl
@[simp] theorem State.raise_ctx (s : State) (code : FaultCode) (info : BitVec 32) (k : Nat) : (s.raise code info).ctx k = s.ctx k := rfl
@[simp] theorem State.raise_me (s : State) (code : FaultCode) (info : BitVec 32) : (s.raise code info).me = s.me := rfl
@[simp] theorem State.raise_mutex (s : State) (code : FaultCode) (info : BitVec 32) (k : Nat) : (s.raise code info).mutex k = s.mutex k := rfl
@[simp] theorem State.raise_flag (s : State) (code : FaultCode) (info : BitVec 32) (k : Nat) : (s.raise code info).flag k = s.flag k := rfl
@[simp] theorem State.raise_prog (s : State) (code : FaultCode) (info : BitVec 32) (k : Nat) : (s.raise code info).prog k = s.prog k := rfl
@[simp] theorem State.raise_cpl (s : State) (code : FaultCode) (info : BitVec 32) (k : Nat) : (s.raise code info).cpl k = s.cpl k := rfl
@[simp] theorem State.raise_fetch (s : State) (code : FaultCode) (info : BitVec 32) (k : Nat) : (s.raise code info).fetch k = s.fetch k := rfl

/-! ### raiseDispatch -/

@[simp] theorem State.raiseDispatch_params (s : State) (sub : DispatchSub) (r : Request) : (s.raiseDispatch sub r).params = s.params := rfl
@[simp] theorem State.raiseDispatch_ctxs (s : State) (sub : DispatchSub) (r : Request) : (s.raiseDispatch sub r).ctxs = s.ctxs := rfl
@[simp] theorem State.raiseDispatch_mem (s : State) (sub : DispatchSub) (r : Request) : (s.raiseDispatch sub r).mem = s.mem := rfl
@[simp] theorem State.raiseDispatch_phase (s : State) (sub : DispatchSub) (r : Request) : (s.raiseDispatch sub r).phase = s.phase := rfl
@[simp] theorem State.raiseDispatch_idtr (s : State) (sub : DispatchSub) (r : Request) : (s.raiseDispatch sub r).idtr = s.idtr := rfl
@[simp] theorem State.raiseDispatch_mutexes (s : State) (sub : DispatchSub) (r : Request) : (s.raiseDispatch sub r).mutexes = s.mutexes := rfl
@[simp] theorem State.raiseDispatch_fault (s : State) (sub : DispatchSub) (r : Request) : (s.raiseDispatch sub r).fault = some ⟨.dispatch, some sub, .disp, none, none, BitVec.ofNat 32 r.vector⟩ := rfl
@[simp] theorem State.raiseDispatch_refused (s : State) (sub : DispatchSub) (r : Request) : (s.raiseDispatch sub r).refused = s.refused := rfl
@[simp] theorem State.raiseDispatch_ie (s : State) (sub : DispatchSub) (r : Request) : (s.raiseDispatch sub r).ie = s.ie := rfl
@[simp] theorem State.raiseDispatch_active (s : State) (sub : DispatchSub) (r : Request) : (s.raiseDispatch sub r).active = s.active := rfl
@[simp] theorem State.raiseDispatch_hist (s : State) (sub : DispatchSub) (r : Request) : (s.raiseDispatch sub r).hist = s.hist ++ [.dispatchFailed r.vector r.source sub] := rfl
@[simp] theorem State.raiseDispatch_cur (s : State) (sub : DispatchSub) (r : Request) : (s.raiseDispatch sub r).cur = s.cur := rfl
@[simp] theorem State.raiseDispatch_plan (s : State) (sub : DispatchSub) (r : Request) : (s.raiseDispatch sub r).plan = s.plan := rfl
@[simp] theorem State.raiseDispatch_tick (s : State) (sub : DispatchSub) (r : Request) : (s.raiseDispatch sub r).tick = s.tick := rfl
@[simp] theorem State.raiseDispatch_ctx (s : State) (sub : DispatchSub) (r : Request) (k : Nat) : (s.raiseDispatch sub r).ctx k = s.ctx k := rfl
@[simp] theorem State.raiseDispatch_me (s : State) (sub : DispatchSub) (r : Request) : (s.raiseDispatch sub r).me = s.me := rfl
@[simp] theorem State.raiseDispatch_mutex (s : State) (sub : DispatchSub) (r : Request) (k : Nat) : (s.raiseDispatch sub r).mutex k = s.mutex k := rfl
@[simp] theorem State.raiseDispatch_flag (s : State) (sub : DispatchSub) (r : Request) (k : Nat) : (s.raiseDispatch sub r).flag k = s.flag k := rfl
@[simp] theorem State.raiseDispatch_prog (s : State) (sub : DispatchSub) (r : Request) (k : Nat) : (s.raiseDispatch sub r).prog k = s.prog k := rfl
@[simp] theorem State.raiseDispatch_cpl (s : State) (sub : DispatchSub) (r : Request) (k : Nat) : (s.raiseDispatch sub r).cpl k = s.cpl k := rfl
@[simp] theorem State.raiseDispatch_fetch (s : State) (sub : DispatchSub) (r : Request) (k : Nat) : (s.raiseDispatch sub r).fetch k = s.fetch k := rfl

/-! ### loadIdtr -/

@[simp] theorem State.loadIdtr_params (s : State) (p : Pointer) : (s.loadIdtr p).params = s.params := rfl
@[simp] theorem State.loadIdtr_ctxs (s : State) (p : Pointer) : (s.loadIdtr p).ctxs = s.ctxs := rfl
@[simp] theorem State.loadIdtr_mem (s : State) (p : Pointer) : (s.loadIdtr p).mem = s.mem := rfl
@[simp] theorem State.loadIdtr_phase (s : State) (p : Pointer) : (s.loadIdtr p).phase = s.phase := rfl
@[simp] theorem State.loadIdtr_idtr (s : State) (p : Pointer) : (s.loadIdtr p).idtr = some ⟨pointerSize p, pointerBase p⟩ := rfl
@[simp] theorem State.loadIdtr_mutexes (s : State) (p : Pointer) : (s.loadIdtr p).mutexes = s.mutexes := rfl
@[simp] theorem State.loadIdtr_fault (s : State) (p : Pointer) : (s.loadIdtr p).fault = s.fault := rfl
@[simp] theorem State.loadIdtr_refused (s : State) (p : Pointer) : (s.loadIdtr p).refused = s.refused := rfl
@[simp] theorem State.loadIdtr_ie (s : State) (p : Pointer) : (s.loadIdtr p).ie = s.ie := rfl
@[simp] theorem State.loadIdtr_active (s : State) (p : Pointer) : (s.loadIdtr p).active = s.active := rfl
@[simp] theorem State.loadIdtr_hist (s : State) (p : Pointer) : (s.loadIdtr p).hist = s.hist ++ [.load p] := rfl
@[simp] theorem State.loadIdtr_cur (s : State) (p : Pointer) : (s.loadIdtr p).cur = s.cur := rfl
@[simp] theorem State.loadIdtr_plan (s : State) (p : Pointer) : (s.loadIdtr p).plan = s.plan := rfl
@[simp] theorem State.loadIdtr_tick (s : State) (p : Pointer) : (s.loadIdtr p).tick = s.tick := rfl
@[simp] theorem State.loadIdtr_ctx (s : State) (p : Pointer) (k : Nat) : (s.loadIdtr p).ctx k = s.ctx k := rfl
@[simp] theorem State.loadIdtr_me (s : State) (p : Pointer) : (s.loadIdtr p).me = s.me := rfl
@[simp] theorem State.loadIdtr_mutex (s : State) (p : Pointer) (k : Nat) : (s.loadIdtr p).mutex k = s.mutex k := rfl
@[simp] theorem State.loadIdtr_flag (s : State) (p : Pointer) (k : Nat) : (s.loadIdtr p).flag k = s.flag k := rfl
@[simp] theorem State.loadIdtr_prog (s : State) (p : Pointer) (k : Nat) : (s.loadIdtr p).prog k = s.prog k := rfl
@[simp] theorem State.loadIdtr_cpl (s : State) (p : Pointer) (k : Nat) : (s.loadIdtr p).cpl k = s.cpl k := rfl
@[simp] theorem State.loadIdtr_fetch (s : State) (p : Pointer) (k : Nat) : (s.loadIdtr p).fetch k = s.fetch k := rfl

/-! ### releaseAll -/

@[simp] theorem State.releaseAll_params (s : State) (c : Nat) : (s.releaseAll c).params = s.params := rfl
@[simp] theorem State.releaseAll_ctxs (s : State) (c : Nat) : (s.releaseAll c).ctxs = s.ctxs := rfl
@[simp] theorem State.releaseAll_mem (s : State) (c : Nat) : (s.releaseAll c).mem = s.mem := rfl
@[simp] theorem State.releaseAll_phase (s : State) (c : Nat) : (s.releaseAll c).phase = s.phase := rfl
@[simp] theorem State.releaseAll_idtr (s : State) (c : Nat) : (s.releaseAll c).idtr = s.idtr := rfl
@[simp] theorem State.releaseAll_mutexes (s : State) (c : Nat) : (s.releaseAll c).mutexes = s.mutexes.map fun x => if x.holder = some c then x.released else x := rfl
@[simp] theorem State.releaseAll_fault (s : State) (c : Nat) : (s.releaseAll c).fault = s.fault := rfl
@[simp] theorem State.releaseAll_refused (s : State) (c : Nat) : (s.releaseAll c).refused = s.refused := rfl
@[simp] theorem State.releaseAll_ie (s : State) (c : Nat) : (s.releaseAll c).ie = s.ie := rfl
@[simp] theorem State.releaseAll_active (s : State) (c : Nat) : (s.releaseAll c).active = s.active := rfl
@[simp] theorem State.releaseAll_hist (s : State) (c : Nat) : (s.releaseAll c).hist = s.hist ++ (s.heldBy c).map (Event.release c) := rfl
@[simp] theorem State.releaseAll_cur (s : State) (c : Nat) : (s.releaseAll c).cur = s.cur := rfl
@[simp] theorem State.releaseAll_plan (s : State) (c : Nat) : (s.releaseAll c).plan = s.plan := rfl
@[simp] theorem State.releaseAll_tick (s : State) (c : Nat) : (s.releaseAll c).tick = s.tick := rfl
@[simp] theorem State.releaseAll_ctx (s : State) (c : Nat) (k : Nat) : (s.releaseAll c).ctx k = s.ctx k := rfl
@[simp] theorem State.releaseAll_me (s : State) (c : Nat) : (s.releaseAll c).me = s.me := rfl
@[simp] theorem State.releaseAll_prog (s : State) (c : Nat) (k : Nat) : (s.releaseAll c).prog k = s.prog k := rfl
@[simp] theorem State.releaseAll_cpl (s : State) (c : Nat) (k : Nat) : (s.releaseAll c).cpl k = s.cpl k := rfl
@[simp] theorem State.releaseAll_fetch (s : State) (c : Nat) (k : Nat) : (s.releaseAll c).fetch k = s.fetch k := rfl

/-! ### focus -/

@[simp] theorem State.focus_params (s : State) (c : Nat) : (s.focus c).params = s.params := rfl
@[simp] theorem State.focus_ctxs (s : State) (c : Nat) : (s.focus c).ctxs = s.ctxs := rfl
@[simp] theorem State.focus_mem (s : State) (c : Nat) : (s.focus c).mem = s.mem := rfl
@[simp] theorem State.focus_phase (s : State) (c : Nat) : (s.focus c).phase = s.phase := rfl
@[simp] theorem State.focus_idtr (s : State) (c : Nat) : (s.focus c).idtr = s.idtr := rfl
@[simp] theorem State.focus_mutexes (s : State) (c : Nat) : (s.focus c).mutexes = s.mutexes := rfl
@[simp] theorem State.focus_fault (s : State) (c : Nat) : (s.focus c).fault = s.fault := rfl
@[simp] theorem State.focus_refused (s : State) (c : Nat) : (s.focus c).refused = s.refused := rfl
@[simp] theorem State.focus_ie (s : State) (c : Nat) : (s.focus c).ie = s.ie := rfl
@[simp] theorem State.focus_active (s : State) (c : Nat) : (s.focus c).active = s.active := rfl
@[simp] theorem State.focus_hist (s : State) (c : Nat) : (s.focus c).hist = s.hist := rfl
@[simp] theorem State.focus_cur (s : State) (c : Nat) : (s.focus c).cur = c := rfl
@[simp] theorem State.focus_plan (s : State) (c : Nat) : (s.focus c).plan = s.plan := rfl
@[simp] theorem State.focus_tick (s : State) (c : Nat) : (s.focus c).tick = s.tick := rfl
@[simp] theorem State.focus_ctx (s : State) (c : Nat) (k : Nat) : (s.focus c).ctx k = s.ctx k := rfl
@[simp] theorem State.focus_mutex (s : State) (c : Nat) (k : Nat) : (s.focus c).mutex k = s.mutex k := rfl
@[simp] theorem State.focus_flag (s : State) (c : Nat) (k : Nat) : (s.focus c).flag k = s.flag k := rfl
@[simp] theorem State.focus_prog (s : State) (c : Nat) (k : Nat) : (s.focus c).prog k = s.prog k := rfl
@[simp] theorem State.focus_cpl (s : State) (c : Nat) (k : Nat) : (s.focus c).cpl k = s.cpl k := rfl
@[simp] theorem State.focus_fetch (s : State) (c : Nat) (k : Nat) : (s.focus c).fetch k = s.fetch k := rfl

/-! ### consumeChoice -/

@[simp] theorem State.consumeChoice_params (s : State) : (s.consumeChoice).params = s.params := rfl
@[simp] theorem State.consumeChoice_ctxs (s : State) : (s.consumeChoice).ctxs = s.ctxs := rfl
@[simp] theorem State.consumeChoice_mem (s : State) : (s.consumeChoice).mem = s.mem := rfl
@[simp] theorem State.consumeChoice_phase (s : State) : (s.consumeChoice).phase = s.phase := rfl
@[simp] theorem State.consumeChoice_idtr (s : State) : (s.consumeChoice).idtr = s.idtr := rfl
@[simp] theorem State.consumeChoice_mutexes (s : State) : (s.consumeChoice).mutexes = s.mutexes := rfl
@[simp] theorem State.consumeChoice_fault (s : State) : (s.consumeChoice).fault = s.fault := rfl
@[simp] theorem State.consumeChoice_refused (s : State) : (s.consumeChoice).refused = s.refused := rfl
@[simp] theorem State.consumeChoice_ie (s : State) : (s.consumeChoice).ie = s.ie := rfl
@[simp] theorem State.consumeChoice_active (s : State) : (s.consumeChoice).active = s.active := rfl
@[simp] theorem State.consumeChoice_hist (s : State) : (s.consumeChoice).hist = s.hist := rfl
@[simp] theorem State.consumeChoice_cur (s : State) : (s.consumeChoice).cur = s.cur := rfl
@[simp] theorem State.consumeChoice_plan (s : State) : (s.consumeChoice).plan = s.plan.tail := rfl
@[simp] theorem State.consumeChoice_tick (s : State) : (s.consumeChoice).tick = s.tick + 1 := rfl
@[simp] theorem State.consumeChoice_ctx (s : State) (k : Nat) : (s.consumeChoice).ctx k = s.ctx k := rfl
@[simp] theorem State.consumeChoice_me (s : State) : (s.consumeChoice).me = s.me := rfl
@[simp] theorem State.consumeChoice_mutex (s : State) (k : Nat) : (s.consumeChoice).mutex k = s.mutex k := rfl
@[simp] theorem State.consumeChoice_flag (s : State) (k : Nat) : (s.consumeChoice).flag k = s.flag k := rfl
@[simp] theorem State.consumeChoice_prog (s : State) (k : Nat) : (s.consumeChoice).prog k = s.prog k := rfl
@[simp] theorem State.consumeChoice_cpl (s : State) (k : Nat) : (s.consumeChoice).cpl k = s.cpl k := rfl
@[simp] theorem State.consumeChoice_fetch (s : State) (k : Nat) : (s.consumeChoice).fetch k = s.fetch k := rfl

end Sys2Proof.Machine
end

