-- ==== Sys2Proof/Laws/Registers.lean ====
section
/-! SUPPORT. Reading a register or a mutex after an update of it. -/

namespace Sys2Proof.Machine

@[simp] theorem State.ctxs_length_updCtx (s : State) (c : Nat) (f : Ctx → Ctx) :
    (s.updCtx c f).ctxs.length = s.ctxs.length := by simp

/-- An update of context c changes that context's registers only. -/
theorem State.ctx_updCtx (s : State) (c c' : Nat) (f : Ctx → Ctx) :
    (s.updCtx c f).ctx c' = if c = c' ∧ c' < s.ctxs.length then f (s.ctx c') else s.ctx c' := by
  by_cases hlt : c' < s.ctxs.length
  · by_cases hc : c = c' <;> simp [State.ctx, hlt, hc]
  · simp [State.ctx, hlt]

theorem State.ctx_updCtx_self (s : State) {c : Nat} (f : Ctx → Ctx) (h : c < s.ctxs.length) :
    (s.updCtx c f).ctx c = f (s.ctx c) := by simp [State.ctx_updCtx, h]

theorem State.ctx_updCtx_ne (s : State) {c c' : Nat} (f : Ctx → Ctx) (h : c' ≠ c) :
    (s.updCtx c f).ctx c' = s.ctx c' := by simp [State.ctx_updCtx, h.symm]

theorem State.updMe_eq (s : State) (f : Ctx → Ctx) : s.updMe f = s.updCtx s.cur f := rfl

theorem State.me_updMe (s : State) (f : Ctx → Ctx) (h : s.curOk) : (s.updMe f).me = f s.me :=
  State.ctx_updCtx_self s f h

theorem State.ctx_updMe_ne (s : State) {c : Nat} (f : Ctx → Ctx) (h : c ≠ s.cur) : (s.updMe f).ctx c = s.ctx c :=
  State.ctx_updCtx_ne s f h

/-- An update of mutex m changes that mutex only. -/
theorem State.mutex_updMutex (s : State) (m m' : Nat) (f : Mutex → Mutex) :
    (s.updMutex m f).mutex m' = if m = m' ∧ m' < s.mutexes.length then f (s.mutex m') else s.mutex m' := by
  by_cases hlt : m' < s.mutexes.length
  · by_cases hm : m = m' <;> simp [State.mutex, hlt, hm]
  · simp [State.mutex, hlt]

theorem State.mutex_updMutex_self (s : State) {m : Nat} (f : Mutex → Mutex) (h : m < s.mutexes.length) :
    (s.updMutex m f).mutex m = f (s.mutex m) := by simp [State.mutex_updMutex, h]

theorem State.mutex_updMutex_ne (s : State) {m m' : Nat} (f : Mutex → Mutex) (h : m' ≠ m) :
    (s.updMutex m f).mutex m' = s.mutex m' := by simp [State.mutex_updMutex, h.symm]

/-- An index that is no mutex reads as a free one. -/
theorem State.mutex_of_le (s : State) {m : Nat} (h : s.mutexes.length ≤ m) : s.mutex m = Mutex.absent := by
  simp [State.mutex, h]

/-- An index that is no context reads as an idle one. -/
theorem State.ctx_of_le (s : State) {c : Nat} (h : s.ctxs.length ≤ c) : s.ctx c = Ctx.absent := by
  simp [State.ctx, h]

/-- The clear of every handle, read at one context. -/
theorem State.ctx_clearHandles (s : State) (c : Nat) :
    s.clearHandles.ctx c = { s.ctx c with handle := none } := by
  by_cases h : c < s.ctxs.length
  · simp [State.ctx, h]
  · simp [State.ctx, h, Ctx.absent]

/-- The release of every guard of c, read at one mutex (44_spinlock R227). -/
theorem State.mutex_releaseAll (s : State) (c m : Nat) :
    (s.releaseAll c).mutex m = if (s.mutex m).holder = some c then (s.mutex m).released else s.mutex m := by
  by_cases h : m < s.mutexes.length
  · simp [State.mutex, h]
  · simp [State.mutex, h, Mutex.absent]

/-! ### The registers of the executing context after each write -/

@[simp] theorem State.ctxs_length_updMe (s : State) (f : Ctx → Ctx) : (s.updMe f).ctxs.length = s.ctxs.length := by simp

@[simp] theorem State.ctxs_length_advance (s : State) : s.advance.ctxs.length = s.ctxs.length :=
  s.ctxs_length_updMe _

@[simp] theorem State.ctxs_length_setSel (s : State) (x : Selector) : (s.setSel x).ctxs.length = s.ctxs.length :=
  s.ctxs_length_updMe _

@[simp] theorem State.ctxs_length_setGe (s : State) (e : GateEntry) : (s.setGe e).ctxs.length = s.ctxs.length :=
  s.ctxs_length_updMe _

@[simp] theorem State.ctxs_length_setRes (s : State) (x : Payload) : (s.setRes x).ctxs.length = s.ctxs.length :=
  s.ctxs_length_updMe _

@[simp] theorem State.ctxs_length_setHandle (s : State) (v : Nat) : (s.setHandle v).ctxs.length = s.ctxs.length :=
  s.ctxs_length_updMe _

@[simp] theorem State.ctxs_length_clearHandles (s : State) : s.clearHandles.ctxs.length = s.ctxs.length := by simp

theorem State.me_advance (s : State) (h : s.curOk) : s.advance.me = { s.me with pc := s.me.pc + 1 } := s.me_updMe _ h

theorem State.me_setSel (s : State) (x : Selector) (h : s.curOk) : (s.setSel x).me = { s.me with sel := some x } :=
  s.me_updMe _ h

theorem State.me_setGe (s : State) (e : GateEntry) (h : s.curOk) : (s.setGe e).me = { s.me with ge := some e } :=
  s.me_updMe _ h

theorem State.me_setRes (s : State) (x : Payload) (h : s.curOk) : (s.setRes x).me = { s.me with res := some x } :=
  s.me_updMe _ h

theorem State.me_setHandle (s : State) (v : Nat) (h : s.curOk) : (s.setHandle v).me = { s.me with handle := some v } :=
  s.me_updMe _ h

theorem State.me_clearHandles (s : State) : s.clearHandles.me = { s.me with handle := none } := s.ctx_clearHandles _

theorem State.ctx_advance_ne (s : State) {c : Nat} (h : c ≠ s.cur) : s.advance.ctx c = s.ctx c := s.ctx_updMe_ne _ h

theorem State.ctx_setSel_ne (s : State) (x : Selector) {c : Nat} (h : c ≠ s.cur) : (s.setSel x).ctx c = s.ctx c :=
  s.ctx_updMe_ne _ h

theorem State.ctx_setGe_ne (s : State) (e : GateEntry) {c : Nat} (h : c ≠ s.cur) : (s.setGe e).ctx c = s.ctx c :=
  s.ctx_updMe_ne _ h

theorem State.ctx_setRes_ne (s : State) (x : Payload) {c : Nat} (h : c ≠ s.cur) : (s.setRes x).ctx c = s.ctx c :=
  s.ctx_updMe_ne _ h

theorem State.ctx_setHandle_ne (s : State) (v : Nat) {c : Nat} (h : c ≠ s.cur) : (s.setHandle v).ctx c = s.ctx c :=
  s.ctx_updMe_ne _ h

end Sys2Proof.Machine
end

