-- ==== Sys2Proof/Laws/Ops.lean ====
section
/-! SUPPORT. What each shared operation can do: if it answers a next state, then one of these. Proofs about commands cite these
lemmas and do not unfold the operations. -/

namespace Sys2Proof.Machine

/-- Reading SEL[c]: it holds a value, or UNINIT is raised. -/
theorem needSel_next {s t : State} {k : Selector → Result} (h : needSel s k = .next t) :
    (∃ x, s.me.sel = some x ∧ k x = .next t) ∨ (s.me.sel = none ∧ t = s.raise .uninit 0) := by
  unfold needSel at h
  cases hs : s.me.sel with
  | some x => exact .inl ⟨x, rfl, by rwa [hs] at h⟩
  | none => rw [hs] at h; cases h; exact .inr ⟨rfl, rfl⟩

/-- Reading GE[c]: it holds a value, or UNINIT is raised. -/
theorem needGe_next {s t : State} {k : GateEntry → Result} (h : needGe s k = .next t) :
    (∃ e, s.me.ge = some e ∧ k e = .next t) ∨ (s.me.ge = none ∧ t = s.raise .uninit 0) := by
  unfold needGe at h
  cases hs : s.me.ge with
  | some x => exact .inl ⟨x, rfl, by rwa [hs] at h⟩
  | none => rw [hs] at h; cases h; exact .inr ⟨rfl, rfl⟩

/-- Reading RES[c]: it holds a value, or UNINIT is raised. -/
theorem needRes_next {s t : State} {k : Payload → Result} (h : needRes s k = .next t) :
    (∃ x, s.me.res = some x ∧ k x = .next t) ∨ (s.me.res = none ∧ t = s.raise .uninit 0) := by
  unfold needRes at h
  cases hs : s.me.res with
  | some x => exact .inl ⟨x, rfl, by rwa [hs] at h⟩
  | none => rw [hs] at h; cases h; exact .inr ⟨rfl, rfl⟩

/-- The table is not loaded, or TABLE_LOCKED is raised. -/
theorem needUnlocked_next {s t : State} {info : BitVec 32} {k : Result} (h : needUnlocked s info k = .next t) :
    (s.phase ≠ .loaded ∧ k = .next t) ∨ (s.phase = .loaded ∧ t = s.raise .tableLocked info) := by
  unfold needUnlocked at h
  split at h
  · cases h; exact .inr ⟨‹_›, rfl⟩
  · exact .inl ⟨‹_›, h⟩

/-- The executing context holds m, or GUARD_NOT_HELD is raised. -/
theorem needGuard_next {s t : State} {m : BitVec 8} {k : Result} (h : needGuard s m k = .next t) :
    ((s.mutex m.toNat).holder = some s.cur ∧ k = .next t) ∨
    ((s.mutex m.toNat).holder ≠ some s.cur ∧ t = s.raise .guardNotHeld (m.setWidth 32)) := by
  unfold needGuard at h
  split at h
  · exact .inl ⟨‹_›, h⟩
  · cases h; exact .inr ⟨‹_›, rfl⟩

/-- An access that is made lies in TR. -/
theorem needInTable_next {s t : State} {a n : Nat} {k : Result} (h : needInTable s a n k = .next t) :
    inTable s.params a n = true ∧ k = .next t := by
  unfold needInTable at h
  split at h
  · exact ⟨‹_›, h⟩
  · cases h

/-- `attr_read` (41_attribute R150): the target byte is read, or one of its three faults is raised. -/
theorem attrRead_next {s u : State} {t : Target} {set : Bool} {k : Byte → Result} (h : attrRead s t set k = .next u) :
    (t = .ge ∧ ∃ e, s.me.ge = some e ∧ k (gateAttr e) = .next u) ∨
    (t = .ge ∧ s.me.ge = none ∧ u = s.raise .uninit 0) ∨
    (t = .tbl ∧ (set = true → s.phase ≠ .loaded) ∧ ∃ v, s.me.handle = some v ∧
      inTable s.params (attrAddr s.params v) 1 = true ∧ k (Memory.read s.mem (attrAddr s.params v)) = .next u) ∨
    (t = .tbl ∧ set = true ∧ s.phase = .loaded ∧ u = s.raise .tableLocked 0) ∨
    (t = .tbl ∧ (set = true → s.phase ≠ .loaded) ∧ s.me.handle = none ∧ u = s.raise .noHandle 0) := by
  cases t with
  | ge =>
    rcases needGe_next h with ⟨e, he, hk⟩ | ⟨he, hu⟩
    · exact .inl ⟨rfl, e, he, hk⟩
    · exact .inr (.inl ⟨rfl, he, hu⟩)
  | tbl =>
    simp only [attrRead] at h
    split at h
    · rename_i hl
      simp only [Bool.and_eq_true, decide_eq_true_eq] at hl
      cases h
      exact .inr (.inr (.inr (.inl ⟨rfl, hl.1, hl.2, rfl⟩)))
    · rename_i hl
      have hl' : set = true → s.phase ≠ .loaded := by simpa using hl
      split at h
      · cases h
        exact .inr (.inr (.inr (.inr ⟨rfl, hl', ‹_›, rfl⟩)))
      · rename_i v hv
        obtain ⟨ht, hk⟩ := needInTable_next h
        exact .inr (.inr (.inl ⟨rfl, hl', v, hv, ht, hk⟩))

/-- `attr_write` with t = 0 (41_attribute R150). -/
theorem State.attrWrite_ge {s : State} {e : GateEntry} (h : s.me.ge = some e) (a : Byte) :
    s.attrWrite .ge a = s.setGe (gateWithAttr e a) := by simp [State.attrWrite, h]

/-- `attr_write` with t = 1 (41_attribute R150). -/
theorem State.attrWrite_tbl {s : State} {v : Nat} (h : s.me.handle = some v) (a : Byte) :
    s.attrWrite .tbl a = s.writeTable (attrAddr s.params v) 1 a.toNat := by simp [State.attrWrite, h]

/-- Two writes of registers of one context are one. -/
theorem State.updCtx_updCtx (s : State) (c : Nat) (f g : Ctx → Ctx) :
    (s.updCtx c f).updCtx c g = s.updCtx c (fun k => g (f k)) := by
  simp [State.updCtx, List.modify_modify_eq, Function.comp_def]

/-- Two writes of one mutex are one. -/
theorem State.updMutex_updMutex (s : State) (m : Nat) (f g : Mutex → Mutex) :
    (s.updMutex m f).updMutex m g = s.updMutex m (fun x => g (f x)) := by
  simp [State.updMutex, List.modify_modify_eq, Function.comp_def]

/-! ### The end of a context (10_state R23) -/

@[simp] theorem State.endContext_params (s : State) (c : Nat) : (s.endContext c).params = s.params := by
  simp only [State.endContext]; split <;> (try split) <;> simp

@[simp] theorem State.endContext_mem (s : State) (c : Nat) : (s.endContext c).mem = s.mem := by
  simp only [State.endContext]; split <;> (try split) <;> simp

@[simp] theorem State.endContext_phase (s : State) (c : Nat) : (s.endContext c).phase = s.phase := by
  simp only [State.endContext]; split <;> (try split) <;> simp

@[simp] theorem State.endContext_idtr (s : State) (c : Nat) : (s.endContext c).idtr = s.idtr := by
  simp only [State.endContext]; split <;> (try split) <;> simp

@[simp] theorem State.endContext_fault (s : State) (c : Nat) : (s.endContext c).fault = s.fault := by
  simp only [State.endContext]; split <;> (try split) <;> simp

@[simp] theorem State.endContext_refused (s : State) (c : Nat) : (s.endContext c).refused = s.refused := by
  simp only [State.endContext]; split <;> (try split) <;> simp

@[simp] theorem State.endContext_ie (s : State) (c : Nat) : (s.endContext c).ie = s.ie := by
  simp only [State.endContext]; split <;> (try split) <;> simp

@[simp] theorem State.endContext_cur (s : State) (c : Nat) : (s.endContext c).cur = s.cur := by
  simp only [State.endContext]; split <;> (try split) <;> simp

@[simp] theorem State.endContext_plan (s : State) (c : Nat) : (s.endContext c).plan = s.plan := by
  simp only [State.endContext]; split <;> (try split) <;> simp

@[simp] theorem State.endContext_tick (s : State) (c : Nat) : (s.endContext c).tick = s.tick := by
  simp only [State.endContext]; split <;> (try split) <;> simp

@[simp] theorem State.endContext_hist (s : State) (c : Nat) :
    (s.endContext c).hist = s.hist ++ (s.heldBy c).map (Event.release c) := by
  simp only [State.endContext]; split <;> (try split) <;> simp

@[simp] theorem State.endContext_mutexes (s : State) (c : Nat) :
    (s.endContext c).mutexes = s.mutexes.map fun x => if x.holder = some c then x.released else x := by
  simp only [State.endContext]; split <;> (try split) <;> simp

@[simp] theorem State.endContext_ctxs_length (s : State) (c : Nat) : (s.endContext c).ctxs.length = s.ctxs.length := by
  simp only [State.endContext]; split <;> (try split) <;> simp

/-- ACTIVE after the end of a context: one popped under NESTED (10_state R38). -/
theorem State.endContext_active (s : State) (c : Nat) :
    (s.endContext c).active = if s.params.sched = .nested then s.active.dropLast else s.active := by
  simp only [State.endContext, State.releaseAll_params, State.releaseAll_active]
  split <;> (try split) <;> simp_all

/-- The mutexes after the end of a context (44_spinlock R227). -/
theorem State.mutex_endContext (s : State) (c m : Nat) :
    (s.endContext c).mutex m = if (s.mutex m).holder = some c then (s.mutex m).released else s.mutex m := by
  rw [← State.mutex_releaseAll]
  simp [State.mutex]

/-- What the end of a context makes of its registers (10_state R23). -/
def Ctx.ended (p : Params) (c : Nat) (k : Ctx) : Ctx :=
  if p.sched = .nested ∧ c ≠ 0 then { k with status := .idle, pc := 0 } else { k with status := .done }

/-- The registers after the end of a context (10_state R23). -/
theorem State.ctx_endContext (s : State) (c c' : Nat) :
    (s.endContext c).ctx c' = if c = c' ∧ c' < s.ctxs.length then Ctx.ended s.params c (s.ctx c') else s.ctx c' := by
  simp only [State.endContext, State.releaseAll_params, State.releaseAll_active, Ctx.ended]
  rcases hs : s.params.sched with _ | _
  · by_cases hc : c = 0 <;> (simp [hc, State.ctx_updCtx]; rfl)
  · simp [State.ctx_updCtx]; rfl

end Sys2Proof.Machine
end

