-- ==== Sys2Proof/Laws/Exec.lean ====
section
/-! SUPPORT. Everything a command can do, once: if `exec` answers a next state, it is one of the effects below. Proofs about every
command go by the cases of `Effect` and do not unfold `exec`. -/

namespace Sys2Proof.Machine

/-- The effects of the commands on the state. -/
inductive Effect (s : State) : Instr → State → Prop where
  /-- A fault is raised (60_exceptions R251). -/
  | raised (i : Instr) (code : FaultCode) (info : BitVec 32) (hc : code ≠ .dispatch) : Effect s i (s.raise code info)
  /-- SEL[c] is written (40_selector R130 to R133). -/
  | wroteSel (i : Instr) (x : Selector) (hi : i.row ∈ [Row.selNew, Row.selSetRpl, Row.selSetTi, Row.selSetIndex]) :
      Effect s i (s.setSel x).advance
  /-- RES[c] is written. -/
  | wroteRes (i : Instr) (x : Payload)
      (hi : i.row ∈ [Row.selGetRpl, Row.selGetTi, Row.selGetIndex, Row.attrGetPresent, Row.attrGetGateKind, Row.attrGetDpl,
        Row.gateGetOffset, Row.gateGetSel, Row.gateGetAttr, Row.mutexRead])
      (hm : ∀ m, i = .mutexRead m → (s.mutex m.toNat).holder = some s.cur ∧ x = (s.mutex m.toNat).payload) :
      Effect s i (s.setRes x).advance
  /-- GE[c] is formed (42_gate_entry R170, R171). -/
  | wroteGe (i : Instr) (e : GateEntry) (hi : i.row ∈ [Row.gateNew, Row.gateMissing]) (hr : gateReserved e = 0)
      (hb : attrBit4 (gateAttr e) = 0) : Effect s i (s.setGe e).advance
  /-- The attribute byte of GE[c] is written (41_attribute R151 to R153). -/
  | wroteGeAttr (i : Instr) (e : GateEntry) (a : Byte)
      (hi : i.row ∈ [Row.attrSetPresent, Row.attrSetGateKind, Row.attrSetDpl]) (he : s.me.ge = some e)
      (hb : attrBit4 a = attrBit4 (gateAttr e)) : Effect s i (s.setGe (gateWithAttr e a)).advance
  /-- The attribute byte of the table entry named by HANDLE[c] is written (41_attribute R151 to R153). -/
  | wroteTableAttr (i : Instr) (v : Nat) (a : Byte)
      (hi : i.row ∈ [Row.attrSetPresent, Row.attrSetGateKind, Row.attrSetDpl]) (hv : s.me.handle = some v)
      (hp : s.phase ≠ .loaded) (ht : inTable s.params (attrAddr s.params v) 1 = true)
      (hb : attrBit4 a = attrBit4 (Memory.read s.mem (attrAddr s.params v))) :
      Effect s i (s.writeTable (attrAddr s.params v) 1 a.toNat).advance
  /-- The table is cleared (43_idt R190). -/
  | cleared (hp : s.phase ≠ .loaded) : Effect s .idtNew ((s.clearTable.setPhase .unbuilt).clearHandles).advance
  /-- An entry is written (43_idt R191). -/
  | wroteEntry (v : BitVec 16) (addr : Addr) (hp : s.phase ≠ .loaded) (hv : v.toNat < s.params.nVectors) :
      Effect s (.idtSetHandler v addr)
        (((s.writeTable (entryAddr s.params v.toNat) 8 (handlerEntry s.params addr).toNat).setPhase .populated).setHandle
          v.toNat).advance
  /-- The table is loaded (43_idt R192). -/
  | loaded (hc : s.cpl s.cur = 0) (hp : s.phase ≠ .loaded) :
      Effect s .idtLoad (((s.loadIdtr (pointerOf s.params)).setPhase .loaded).clearHandles).advance
  /-- A mutex is initialised (44_spinlock R220). -/
  | mutexNew (m : BitVec 8) (d : Payload) (hf : (s.mutex m.toNat).flag = false) :
      Effect s (.mutexNew m d) (s.updMutex m.toNat fun _ => ⟨false, d, none⟩).advance
  /-- A lock attempt succeeds (44_spinlock R222). -/
  | acquired (m : BitVec 8) (hf : (s.mutex m.toNat).flag = false) :
      Effect s (.mutexLock m) (((s.updMutex m.toNat fun x => ⟨true, x.payload, some s.cur⟩).record
        (.lockAttempt s.cur m.toNat true)).advance)
  /-- A lock attempt fails (44_spinlock R222). -/
  | spun (m : BitVec 8) (hf : (s.mutex m.toNat).flag = true) :
      Effect s (.mutexLock m) (s.record (.lockAttempt s.cur m.toNat false))
  /-- A guard is released (44_spinlock R223). -/
  | released (m : BitVec 8) (hh : (s.mutex m.toNat).holder = some s.cur) :
      Effect s (.mutexUnlock m) ((s.release m.toNat).record (.release s.cur m.toNat)).advance
  /-- A payload is written (44_spinlock R225, R226). -/
  | wrotePayload (i : Instr) (m : BitVec 8) (d : Payload)
      (hi : i = .mutexWrite m d ∨ ∃ a x, i = .mutexWriteadd m a ∧ s.me.res = some x ∧ d = x + a)
      (hh : (s.mutex m.toNat).holder = some s.cur) : Effect s i (s.setPayload m.toNat d).advance

theorem attrBit4_attrWithPresent (a : Byte) (p : BitVec 1) : attrBit4 (attrWithPresent a p) = attrBit4 a := by
  apply BitVec.eq_of_getLsbD_eq; intro i hi
  interval_cases i; simp [attrBit4, attrWithPresent]

theorem attrBit4_attrWithKind (a : Byte) (k : GateKind) : attrBit4 (attrWithKind a k) = attrBit4 a := by
  apply BitVec.eq_of_getLsbD_eq; intro i hi
  interval_cases i; simp [attrBit4, attrWithKind]

theorem attrBit4_attrWithDpl (a : Byte) (d : BitVec 2) : attrBit4 (attrWithDpl a d) = attrBit4 a := by
  apply BitVec.eq_of_getLsbD_eq; intro i hi
  interval_cases i; simp [attrBit4, attrWithDpl]

/-- The fields of an encoded gate entry (30_encoding R95). -/
theorem gateReserved_gateEncode (x : Selector) (off : Addr) (a : Byte) : gateReserved (gateEncode x off a) = 0 := by
  apply BitVec.eq_of_getLsbD_eq; intro i hi
  simp only [gateReserved, gateEncode, BitVec.getLsbD_extractLsb', BitVec.getLsbD_append]
  interval_cases i <;> simp

theorem gateAttr_gateEncode (x : Selector) (off : Addr) (a : Byte) : gateAttr (gateEncode x off a) = a := by
  apply BitVec.eq_of_getLsbD_eq; intro i hi
  simp only [gateAttr, gateEncode, BitVec.getLsbD_extractLsb', BitVec.getLsbD_append]
  interval_cases i <;> simp

theorem gateAttr_gateWithAttr (e : GateEntry) (a : Byte) : gateAttr (gateWithAttr e a) = a := by
  apply BitVec.eq_of_getLsbD_eq; intro i hi
  simp only [gateAttr, gateWithAttr, BitVec.getLsbD_extractLsb', BitVec.getLsbD_append]
  interval_cases i <;> simp

theorem gateReserved_gateWithAttr (e : GateEntry) (a : Byte) : gateReserved (gateWithAttr e a) = gateReserved e := by
  apply BitVec.eq_of_getLsbD_eq; intro i hi
  simp only [gateReserved, gateWithAttr, BitVec.getLsbD_extractLsb', BitVec.getLsbD_append]
  interval_cases i <;> simp

/-- The exchange on a held flag writes 1 over 1: it changes nothing (44_spinlock R222). -/
theorem State.xchgAcquire_held {s : State} {m : Nat} (hf : (s.mutex m).flag = true) : s.xchgAcquire m = (true, s) := by
  have hm : s.mutexes.modify m (fun x => { x with flag := true }) = s.mutexes := by
    apply List.ext_getElem?
    intro j
    rw [List.getElem?_modify]
    by_cases hj : m = j
    · subst hj
      cases hg : s.mutexes[m]? with
      | none => simp
      | some x =>
        have : s.mutex m = x := by simp [State.mutex, List.getD, hg]
        rw [this] at hf
        simp [← hf]
    · simp [hj]
  simp only [State.xchgAcquire, State.flag, hf, State.updMutex, hm]

/-- The exchange on a clear flag sets it (44_spinlock R221). -/
theorem State.xchgAcquire_free {s : State} {m : Nat} (hf : (s.mutex m).flag = false) :
    s.xchgAcquire m = (false, s.updMutex m fun x => { x with flag := true }) := by
  simp only [State.xchgAcquire, State.flag, hf]

/-- A setter of SEL[c]. -/
theorem setSelField_effect {f : Selector → Selector} {i : Instr} {s t : State} (h : setSelField f s = .next t)
    (hi : i.row ∈ [Row.selNew, Row.selSetRpl, Row.selSetTi, Row.selSetIndex]) : Effect s i t := by
  obtain ⟨x, -, hk⟩ | ⟨-, rfl⟩ := needSel_next h
  · cases hk; exact .wroteSel i _ hi
  · exact .raised i _ _ (by simp)

/-- An extraction from SEL[c]. -/
theorem getSelField_effect {f : Selector → Payload} {i : Instr} {s t : State} (h : getSelField f s = .next t)
    (hi : i.row ∈ [Row.selGetRpl, Row.selGetTi, Row.selGetIndex]) (hm : ∀ m, i ≠ .mutexRead m) : Effect s i t := by
  obtain ⟨x, -, hk⟩ | ⟨-, rfl⟩ := needSel_next h
  · cases hk
    refine .wroteRes i _ ?_ fun m hm' => absurd hm' (hm m)
    simp only [List.mem_cons, List.not_mem_nil, or_false] at hi ⊢
    tauto
  · exact .raised i _ _ (by simp)

/-- An extraction from GE[c]. -/
theorem getGateField_effect {f : GateEntry → Payload} {i : Instr} {s t : State} (h : getGateField f s = .next t)
    (hi : i.row ∈ [Row.gateGetOffset, Row.gateGetSel, Row.gateGetAttr]) (hm : ∀ m, i ≠ .mutexRead m) : Effect s i t := by
  obtain ⟨x, -, hk⟩ | ⟨-, rfl⟩ := needGe_next h
  · cases hk
    refine .wroteRes i _ ?_ fun m hm' => absurd hm' (hm m)
    simp only [List.mem_cons, List.not_mem_nil, or_false] at hi ⊢
    tauto
  · exact .raised i _ _ (by simp)

/-- A setter of the attribute byte that keeps bit 4. -/
theorem setAttrField_effect {f : Byte → Byte} {tg : Target} {i : Instr} {s t : State} (h : setAttrField tg f s = .next t)
    (hf : ∀ a, attrBit4 (f a) = attrBit4 a)
    (hi : i.row ∈ [Row.attrSetPresent, Row.attrSetGateKind, Row.attrSetDpl]) : Effect s i t := by
  obtain ⟨rfl, e, he, hk⟩ | ⟨rfl, -, rfl⟩ | ⟨rfl, hp, v, hv, ht, hk⟩ | ⟨rfl, -, -, rfl⟩ | ⟨rfl, -, -, rfl⟩ := attrRead_next h
  · cases hk
    rw [State.attrWrite_ge he]
    exact .wroteGeAttr i e _ hi he (hf _)
  · exact .raised i _ _ (by simp)
  · cases hk
    rw [State.attrWrite_tbl hv]
    exact .wroteTableAttr i v _ hi hv (hp rfl) ht (hf _)
  · exact .raised i _ _ (by simp)
  · exact .raised i _ _ (by simp)

/-- An extraction from the attribute byte. -/
theorem getAttrField_effect {f : Byte → Payload} {tg : Target} {i : Instr} {s t : State} (h : getAttrField tg f s = .next t)
    (hi : i.row ∈ [Row.attrGetPresent, Row.attrGetGateKind, Row.attrGetDpl]) (hm : ∀ m, i ≠ .mutexRead m) :
    Effect s i t := by
  have hi' : i.row ∈ [Row.selGetRpl, Row.selGetTi, Row.selGetIndex, Row.attrGetPresent, Row.attrGetGateKind, Row.attrGetDpl,
      Row.gateGetOffset, Row.gateGetSel, Row.gateGetAttr, Row.mutexRead] := by
    simp only [List.mem_cons, List.not_mem_nil, or_false] at hi ⊢
    tauto
  obtain ⟨rfl, e, -, hk⟩ | ⟨rfl, -, rfl⟩ | ⟨rfl, -, v, -, -, hk⟩ | ⟨rfl, -, -, rfl⟩ | ⟨rfl, -, -, rfl⟩ := attrRead_next h
  · cases hk; exact .wroteRes i _ hi' fun m hm' => absurd hm' (hm m)
  · exact .raised i _ _ (by simp)
  · cases hk; exact .wroteRes i _ hi' fun m hm' => absurd hm' (hm m)
  · exact .raised i _ _ (by simp)
  · exact .raised i _ _ (by simp)

/-- A command does one of its effects, and nothing else. -/
theorem exec_effect {i : Instr} {s t : State} (h : exec i s = .next t) : Effect s i t := by
  cases i with
  | selNew => cases h; exact .wroteSel _ _ (by simp [Instr.row])
  | selSetRpl rpl => exact setSelField_effect (f := fun x => selWithRpl x rpl) h (by simp [Instr.row])
  | selSetTi ti => exact setSelField_effect (f := fun x => selWithTi x ti) h (by simp [Instr.row])
  | selSetIndex ix => exact setSelField_effect (f := fun x => selWithIndex x ix) h (by simp [Instr.row])
  | selGetRpl => exact getSelField_effect (f := fun x => (selRpl x).setWidth 32) h (by simp [Instr.row]) (by simp)
  | selGetTi => exact getSelField_effect (f := fun x => (selTi x).setWidth 32) h (by simp [Instr.row]) (by simp)
  | selGetIndex => exact getSelField_effect (f := fun x => (selIndex x).setWidth 32) h (by simp [Instr.row]) (by simp)
  | attrSetPresent tg p =>
    exact setAttrField_effect (tg := tg) (f := fun a => attrWithPresent a p) h (fun a => attrBit4_attrWithPresent a p) (by simp [Instr.row])
  | attrSetGateKind tg k =>
    exact setAttrField_effect (tg := tg) (f := fun a => attrWithKind a k) h (fun a => attrBit4_attrWithKind a k) (by simp [Instr.row])
  | attrSetDpl tg d =>
    exact setAttrField_effect (tg := tg) (f := fun a => attrWithDpl a d) h (fun a => attrBit4_attrWithDpl a d) (by simp [Instr.row])
  | attrGetPresent tg =>
    exact getAttrField_effect (tg := tg) (f := fun a => (attrPresent a).setWidth 32) h (by simp [Instr.row]) (by simp)
  | attrGetGateKind tg =>
    exact getAttrField_effect (tg := tg) (f := fun a => (attrKind a).setWidth 32) h (by simp [Instr.row]) (by simp)
  | attrGetDpl tg =>
    exact getAttrField_effect (tg := tg) (f := fun a => (attrDpl a).setWidth 32) h (by simp [Instr.row]) (by simp)
  | gateNew addr =>
    obtain ⟨x, -, hk⟩ | ⟨-, rfl⟩ := needSel_next h
    · cases hk
      exact .wroteGe _ _ (by simp [Instr.row]) (gateReserved_gateEncode ..) (by rw [gateAttr_gateEncode]; decide)
    · exact .raised _ _ _ (by simp)
  | gateMissing => cases h; exact .wroteGe _ _ (by simp [Instr.row]) (by decide) (by decide)
  | gateGetOffset => exact getGateField_effect (f := gateOffset) h (by simp [Instr.row]) (by simp)
  | gateGetSel => exact getGateField_effect (f := fun e => (gateSel e).setWidth 32) h (by simp [Instr.row]) (by simp)
  | gateGetAttr => exact getGateField_effect (f := fun e => (gateAttr e).setWidth 32) h (by simp [Instr.row]) (by simp)
  | idtNew =>
    obtain ⟨hp, hk⟩ | ⟨-, rfl⟩ := needUnlocked_next h
    · cases hk; exact .cleared hp
    · exact .raised _ _ _ (by simp)
  | idtSetHandler v addr =>
    obtain ⟨hp, hk⟩ | ⟨-, rfl⟩ := needUnlocked_next h
    · split at hk
      · cases hk; exact .wroteEntry v addr hp ‹_›
      · cases hk; exact .raised _ _ _ (by simp)
    · exact .raised _ _ _ (by simp)
  | idtLoad =>
    simp only [exec, execIdtLoad] at h
    split at h
    · obtain ⟨hp, hk⟩ | ⟨-, rfl⟩ := needUnlocked_next h
      · cases hk; exact .loaded ‹_› hp
      · exact .raised _ _ _ (by simp)
    · cases h; exact .raised _ _ _ (by simp)
  | mutexNew m d =>
    simp only [exec, execMutexNew] at h
    split at h
    · cases h; exact .raised _ _ _ (by simp)
    · cases h; exact .mutexNew m d (Bool.eq_false_iff.2 ‹_›)
  | mutexLock m =>
    simp only [exec, execMutexLock] at h
    cases hf : (s.mutex m.toNat).flag with
    | false =>
      rw [State.xchgAcquire_free hf] at h
      cases h
      rw [State.updMutex_updMutex]
      exact .acquired m hf
    | true =>
      rw [State.xchgAcquire_held hf] at h
      cases h
      exact .spun m hf
  | mutexUnlock m =>
    obtain ⟨hh, hk⟩ | ⟨-, rfl⟩ := needGuard_next h
    · cases hk; exact .released m hh
    · exact .raised _ _ _ (by simp)
  | mutexRead m =>
    obtain ⟨hh, hk⟩ | ⟨-, rfl⟩ := needGuard_next h
    · cases hk
      exact .wroteRes _ _ (by simp [Instr.row]) fun m' hm => by cases hm; exact ⟨hh, rfl⟩
    · exact .raised _ _ _ (by simp)
  | mutexWrite m d =>
    obtain ⟨hh, hk⟩ | ⟨-, rfl⟩ := needGuard_next h
    · cases hk; exact .wrotePayload _ m d (.inl rfl) hh
    · exact .raised _ _ _ (by simp)
  | mutexWriteadd m d =>
    obtain ⟨x, hx, hk⟩ | ⟨-, rfl⟩ := needRes_next h
    · obtain ⟨hh, hk⟩ | ⟨-, rfl⟩ := needGuard_next hk
      · cases hk; exact .wrotePayload _ m _ (.inr ⟨d, x, rfl, hx, rfl⟩) hh
      · exact .raised _ _ _ (by simp)
    · exact .raised _ _ _ (by simp)

end Sys2Proof.Machine
end

