-- ==== Sys2Proof/Laws/Step.lean ====
section
/-! SUPPORT. What each kind of step can do (70_reset R283): a command of a context, a dispatch, a change of IE; and that the step
the schedule takes is a possible one. -/

namespace Sys2Proof.Machine

/-- The listed moves are possible ones. -/
theorem State.possible_of_mem {s : State} {m : Move} (h : m ∈ s.possibleMoves) : s.possible m = true :=
  (List.mem_filter.1 h).2

theorem State.possible_of_freeMove {s : State} {m : Move} (h : s.freeMove = some m) : s.possible m = true :=
  State.possible_of_mem (List.mem_of_getElem? h)

/-- The step taken is a possible one. -/
theorem State.possible_of_nextMove {s : State} {m : Move} (h : s.nextMove = some m) : s.possible m = true := by
  unfold State.nextMove at h
  split at h
  · split at h
    · cases h; assumption
    · exact State.possible_of_freeMove h
  · exact State.possible_of_freeMove h

/-- A free choice exists as soon as one step is possible. -/
theorem State.freeMove_isSome {s : State} {m : Move} (h : m ∈ s.possibleMoves) : ∃ m', s.freeMove = some m' := by
  have hl : 0 < s.possibleMoves.length := List.length_pos_of_mem h
  have := List.getElem?_eq_getElem (Nat.mod_lt (Config.freeChoice s.tick) hl)
  exact ⟨_, this⟩

/-- One command of a context: ILLEGAL is raised, or the decoded command is executed and the context may end. -/
theorem runContext_next {c : Nat} {s u : State} (h : runContext c s = .next u) :
    ∃ w, s.fetch c = some w ∧
      ((∃ x, decode s.params.nMutex w = .error x ∧ u = (s.focus c).raise .illegal 0) ∨
       ∃ i t, decode s.params.nMutex w = .ok i ∧ exec i (s.focus c) = .next t ∧ u = t.endIfFinished c) := by
  unfold runContext at h
  split at h
  · cases h
  · rename_i w hw
    refine ⟨w, hw, ?_⟩
    split at h
    · cases h; exact .inl ⟨_, ‹_›, rfl⟩
    · rename_i i hi
      cases he : exec i (s.focus c) with
      | next t =>
        rw [he] at h
        cases h
        exact .inr ⟨i, t, hi, he, rfl⟩
      | fault x => rw [he] at h; cases h
      | refused x => rw [he] at h; cases h

/-- A dispatch: a DISPATCH fault is raised, or the request is delivered with the entry read and a handler may start
(60_exceptions R256, R257). -/
theorem dispatch_next {r : Request} {s u : State} (h : dispatch r s = .next u) :
    (∃ sub, u = s.raiseDispatch sub r) ∨
    ∃ t e, s.idtr = some t ∧ ¬ t.limit.toNat < 8 * r.vector + 7 ∧
      e = Memory.readEntry s.mem (t.base.toNat + 8 * r.vector) ∧
      attrPresent (gateAttr e) ≠ 0 ∧ attrKindValid (gateAttr e) = true ∧ dplFails r.source (gateAttr e) = false ∧
      u = (s.record (.deliver r.vector r.source (gateOffset e) (gateSel e) (gateAttr e))).activate r.vector := by
  unfold dispatch at h
  split at h
  · cases h; exact .inl ⟨_, rfl⟩
  · rename_i t ht
    split at h
    · cases h; exact .inl ⟨_, rfl⟩
    · rename_i hl
      obtain ⟨-, hk⟩ := needInTable_next h
      simp only [Host.Outcome.next.injEq] at hk
      subst hk
      unfold deliver
      split
      · exact .inl ⟨_, rfl⟩
      · split
        · exact .inl ⟨_, rfl⟩
        · split
          · exact .inl ⟨_, rfl⟩
          · rename_i hp hk hd
            exact .inr ⟨t, _, ht, hl, rfl, hp, by simpa using hk, Bool.eq_false_iff.2 hd, rfl⟩

/-- Activation: nothing, the start of an IDLE handler under NESTED, or REFUSED (60_exceptions R257). -/
theorem State.activate_cases (s : State) (v : Nat) :
    ((s.params.sched = .interleaved ∨ s.params.handlerOf v = none) ∧ s.activate v = s) ∨
    ∃ h, s.params.sched = .nested ∧ s.params.handlerOf v = some h ∧
      (((s.ctx h).status = .idle ∧ s.activate v = s.startHandler h) ∨
       ((s.ctx h).status ≠ .idle ∧ s.activate v = s.refuse)) := by
  unfold State.activate
  cases hs : s.params.sched with
  | interleaved => exact .inl ⟨.inl rfl, rfl⟩
  | nested =>
    cases hh : s.params.handlerOf v with
    | none => exact .inl ⟨.inr rfl, rfl⟩
    | some h =>
      refine .inr ⟨h, rfl, rfl, ?_⟩
      by_cases hi : (s.ctx h).status = .idle
      · exact .inl ⟨hi, by simp [hi]⟩
      · exact .inr ⟨hi, by simp [hi]⟩

end Sys2Proof.Machine
end

