-- ==== Sys2Proof/Tests/Slice0.lean ====
section
/-! SUPPORT. The model's own tests: ill-formed terms refused, every command's word decoded, the worked examples of the spec one
step each, and a state that meets the hypotheses of every statement. Expected values come from spec/: the example of each rule, and
95_test_vectors.md under its own names (S, D, V, A, G, T, X). -/

namespace Sys2Proof.Tests

open Sys2Proof.Machine

/-! ### Well-formedness: each check refuses an ill-formed term (00_scope R7, 30_encoding R105) -/

theorem test_wf_default : Params.default.wf = true := by decide
theorem test_wf_mutex_out_of_range : (Instr.mutexLock 1).wf 1 = false ∧ (Instr.mutexLock 0).wf 1 = true := by decide
theorem test_wf_no_vectors : { Params.default with nVectors := 0 }.wf = false := by decide
theorem test_wf_many_vectors : { Params.default with nVectors := 8193 }.wf = false := by decide
theorem test_wf_most_vectors : { Params.default with nVectors := 8192 }.wf = true := by decide
theorem test_wf_table_past_the_end : { Params.default with tbase := 0xFFFFFFFF }.wf = false := by decide
theorem test_wf_table_at_the_end : { Params.default with tbase := 0xFFFFF800 }.wf = true := by decide
theorem test_wf_no_context : { Params.default with contexts := [] }.wf = false := by decide
theorem test_wf_many_contexts : { Params.default with contexts := List.replicate 257 ⟨0, []⟩ }.wf = false := by
  simp [-List.reduceReplicate, Params.wf, Params.contextsOk, Params.nCtx]
theorem test_wf_no_mutex : { Params.default with mutexInit := [] }.wf = false := by decide
theorem test_wf_many_mutexes : { Params.default with mutexInit := List.replicate 257 0 }.wf = false := by
  simp [-List.reduceReplicate, Params.wf, Params.mutexesOk, Params.nMutex]
theorem test_wf_handler_context_zero : { Params.default with vecCtx := [(32, 0)] }.wf = false := by decide
theorem test_wf_handler_context_absent : { Params.default with vecCtx := [(32, 1)] }.wf = false := by decide
theorem test_wf_vector_mapped_twice :
    { Params.default with contexts := List.replicate 2 ⟨0, []⟩, vecCtx := [(32, 1), (32, 1)] }.wf = false := by decide
theorem test_wf_wide_vectors : { Params.default with vecBits := 33 }.wf = false := by decide

/-- A configuration that breaks a constraint is refused (00_scope R7). -/
theorem test_launch_refuses_an_ill_formed_configuration :
    State.launch { Params.default with nVectors := 0 } = .refused .badConfiguration := by
  simp [State.launch, test_wf_no_vectors]

/-! ### Decoding: the words of 30_encoding R104, with the operands of the rules' examples -/

theorem test_decode_sel_new : decode 2 0x1000000000000000 = .ok (.selNew) := by decide
theorem test_decode_sel_set_rpl : decode 2 0x1100000000000003 = .ok (.selSetRpl 3) := by decide
theorem test_decode_sel_set_ti : decode 2 0x1200000000000001 = .ok (.selSetTi 1) := by decide
theorem test_decode_sel_set_index : decode 2 0x1300000000001555 = .ok (.selSetIndex 0x1555) := by decide
theorem test_decode_sel_get_rpl : decode 2 0x1400000000000000 = .ok (.selGetRpl) := by decide
theorem test_decode_sel_get_ti : decode 2 0x1500000000000000 = .ok (.selGetTi) := by decide
theorem test_decode_sel_get_index : decode 2 0x1600000000000000 = .ok (.selGetIndex) := by decide
theorem test_decode_attr_set_present : decode 2 0x2001000000000001 = .ok (.attrSetPresent .tbl 1) := by decide
theorem test_decode_attr_set_gate_kind : decode 2 0x210000000000000E = .ok (.attrSetGateKind .ge .int32) := by decide
theorem test_decode_attr_set_dpl : decode 2 0x2201000000000003 = .ok (.attrSetDpl .tbl 3) := by decide
theorem test_decode_attr_get_present : decode 2 0x2300000000000000 = .ok (.attrGetPresent .ge) := by decide
theorem test_decode_attr_get_gate_kind : decode 2 0x2401000000000000 = .ok (.attrGetGateKind .tbl) := by decide
theorem test_decode_attr_get_dpl : decode 2 0x2500000000000000 = .ok (.attrGetDpl .ge) := by decide
theorem test_decode_gate_new : decode 2 0x30000000AABBCCDD = .ok (.gateNew 0xAABBCCDD) := by decide
theorem test_decode_gate_missing : decode 2 0x3100000000000000 = .ok (.gateMissing) := by decide
theorem test_decode_gate_get_offset : decode 2 0x3200000000000000 = .ok (.gateGetOffset) := by decide
theorem test_decode_gate_get_sel : decode 2 0x3300000000000000 = .ok (.gateGetSel) := by decide
theorem test_decode_gate_get_attr : decode 2 0x3400000000000000 = .ok (.gateGetAttr) := by decide
theorem test_decode_idt_new : decode 2 0x4000000000000000 = .ok (.idtNew) := by decide
theorem test_decode_idt_set_handler : decode 2 0x410000FF00101000 = .ok (.idtSetHandler 255 0x00101000) := by decide
theorem test_decode_idt_load : decode 2 0x4200000000000000 = .ok (.idtLoad) := by decide
theorem test_decode_mutex_new : decode 2 0x5000000000000005 = .ok (.mutexNew 0 5) := by decide
theorem test_decode_mutex_lock : decode 2 0x5101000000000000 = .ok (.mutexLock 1) := by decide
theorem test_decode_mutex_unlock : decode 2 0x5200000000000000 = .ok (.mutexUnlock 0) := by decide
theorem test_decode_mutex_read : decode 2 0x5301000000000000 = .ok (.mutexRead 1) := by decide
theorem test_decode_mutex_write : decode 2 0x5400000000000007 = .ok (.mutexWrite 0 7) := by decide
theorem test_decode_mutex_writeadd : decode 2 0x5501000000000001 = .ok (.mutexWriteadd 1 1) := by decide

/-- VALID_KINDS (S9): the four kinds the word above does not show. -/
theorem test_decode_kinds :
    [0x2100000000000005, 0x2100000000000006, 0x2100000000000007, 0x210000000000000F].map (decode 1) =
      [GateKind.task32, .int16, .trap16, .trap32].map fun k => .ok (.attrSetGateKind .ge k) := by decide

/-- D1 to D6, D9 to D13 and D15 select no row. -/
theorem test_decode_no_row :
    ([0x0000000000000000, 0x1700000000000000, 0x1000000000000001, 0x1100000000000004, 0x1200000000000002, 0x1300000000002000] ++
      [0x2200000000000004, 0x2000000000000002, 0x2003000000000000, 0x2300000000000001, 0x4101000000000000,
        0x5000000100000000]).map (decode 1) = List.replicate 12 (.error .noRow) := by decide

/-- D7, D8 and D14. -/
theorem test_decode_bad_operand :
    decode 1 0x2100000000000000 = .error .badKind ∧ decode 1 0x210000000000000C = .error .badKind ∧
    decode 1 0x5101000000000000 = .error .mutexRange := by decide

/-- The decoder reads table words as the table numbers them, and refuses what is no 64-bit word. -/
theorem test_decodeTableWord :
    decodeTableWord 64 0x1300000000001555 = some (.selSetIndex 0x1555) ∧ decodeTableWord 64 0 = none ∧
    decodeTableWord 72 (2 ^ 64) = none := by decide

/-! ### Small states -/

/-- A small configuration: 4 vectors, two mutexes, these command lists. -/
def small (sched : Sched) (progs : List (List Word)) : Params :=
  { Params.default with nVectors := 4, sched := sched, contexts := progs.map (⟨0, ·⟩), mutexInit := [5, 0] }

/-- Context 0 with the list [w, w], about to step. -/
def oneOf (w : Word) : State := { State.resetOf (small .interleaved [[w, w]]) with plan := [.ctx 0] }

/-- A state to execute single commands in. -/
def start : State := oneOf 0x1000000000000000

/-- The registers of the executing context as given. -/
def regs (sel : Option Selector) (ge : Option GateEntry) (res : Option Payload) (handle : Option Nat) : State :=
  start.updMe fun k => { k with sel := sel, ge := ge, res := res, handle := handle }

/-- The executing context holds mutex 0, with this payload. -/
def holding (res : Option Payload) (d : Payload) : State :=
  (regs none none res none).updMutex 0 fun _ => ⟨true, d, some 0⟩

/-- The table is POPULATED, entry 3 has this attribute byte, HANDLE = 3. -/
def populated (a : Byte) : State :=
  ((regs (some 8) none none (some 3)).writeTable 0x0010201D 1 a.toNat).setPhase .populated

/-- The table is LOADED. -/
def loaded : State := (start.loadIdtr (pointerOf start.params)).setPhase .loaded

/-- Executing the word w gives a next state that f accepts. -/
def after (w : Word) (s : State) (f : State → Bool) : Bool :=
  match decode s.params.nMutex w with
  | .error _ => false
  | .ok i =>
    match exec i s with
    | .next t => f t
    | .fault _ => false
    | .refused _ => false

/-- Taking the step m gives a next state that f accepts. -/
def afterMove (m : Move) (s : State) (f : State → Bool) : Bool :=
  match takeMove m s with
  | .next t => f t
  | .fault _ => false
  | .refused _ => false

/-- The fault raised: its code and info. -/
def raised (code : FaultCode) (info : BitVec 32) (t : State) : Bool :=
  match t.fault with
  | some r => decide (r.code = code) && decide (r.info = info)
  | none => false

/-! ### One step each: the rules' own examples -/

theorem test_sel_new : after 0x1000000000000000 start (fun t => t.me.sel = some 0x0000 ∧ t.me.pc = 1) := by decide
theorem test_sel_set_rpl :
    after 0x1100000000000000 (regs (some 0xFFFF) none none none) (fun t => t.me.sel = some 0xFFFC) := by decide
theorem test_sel_set_rpl_uninit : after 0x1100000000000001 start (raised .uninit 0) := by decide
theorem test_sel_set_ti :
    after 0x1200000000000001 (regs (some 0x0008) none none none) (fun t => t.me.sel = some 0x000C) := by decide
theorem test_sel_set_ti_clear :
    after 0x1200000000000000 (regs (some 0xFFFF) none none none) (fun t => t.me.sel = some 0xFFFB) := by decide
theorem test_sel_set_index :
    after 0x1300000000000000 (regs (some 0xFFFF) none none none) (fun t => t.me.sel = some 0x0007) := by decide
theorem test_sel_get_rpl :
    after 0x1400000000000000 (regs (some 0xAAAA) none none none) (fun t => t.me.res = some 2) := by decide
theorem test_sel_get_ti :
    after 0x1500000000000000 (regs (some 0x5555) none none none) (fun t => t.me.res = some 1) := by decide
theorem test_sel_get_index :
    after 0x1600000000000000 (regs (some 0xFFFF) none none none) (fun t => t.me.res = some 0x1FFF) := by decide
theorem test_sel_get_index_uninit : after 0x1600000000000000 start (raised .uninit 0) := by decide

theorem test_attr_set_present :
    after 0x2000000000000001 (regs none (some 0xAABB0E000008CCDD) none none)
      (fun t => t.me.ge = some 0xAABB8E000008CCDD) := by decide
theorem test_attr_set_present_no_handle : after 0x2001000000000001 start (raised .noHandle 0) := by decide
theorem test_attr_set_gate_kind :
    after 0x210000000000000E (regs none (some 0xAABB00000008CCDD) none none)
      (fun t => t.me.ge = some 0xAABB0E000008CCDD) := by decide
theorem test_attr_set_dpl :
    after 0x2200000000000003 (regs none (some 0xAABB8F000008CCDD) none none)
      (fun t => t.me.ge = some 0xAABBEF000008CCDD) := by decide
/-- A13. -/
theorem test_attr_set_dpl_table :
    after 0x2201000000000003 (populated 0x8E) (fun t => t.mem = [(0x0010201D, 0xEE)]) := by decide
theorem test_attr_get_present :
    after 0x2300000000000000 (regs none (some 0xAABB8E000008CCDD) none none) (fun t => t.me.res = some 1) := by decide
theorem test_attr_get_present_table : after 0x2301000000000000 (populated 0x8E) (fun t => t.me.res = some 1) := by decide
theorem test_attr_get_gate_kind :
    after 0x2400000000000000 (regs none (some 0xAABBEF000008CCDD) none none) (fun t => t.me.res = some 0xF) := by decide
theorem test_attr_get_dpl :
    after 0x2500000000000000 (regs none (some 0xAABBEF000008CCDD) none none) (fun t => t.me.res = some 3) := by decide
/-- A12. -/
theorem test_attr_locked :
    after 0x2001000000000001 loaded (raised .tableLocked 0) ∧ after 0x2301000000000000 loaded (raised .noHandle 0) := by decide

theorem test_gate_new :
    after 0x30000000AABBCCDD (regs (some 0x0008) none none none)
      (fun t => t.me.ge = some 0xAABB00000008CCDD ∧
        (List.range 8).map (gateByte 0xAABB00000008CCDD) = [0xDD, 0xCC, 0x08, 0x00, 0x00, 0x00, 0xBB, 0xAA]) := by decide
theorem test_gate_new_uninit : after 0x30000000AABBCCDD start (raised .uninit 0) := by decide
theorem test_gate_missing : after 0x3100000000000000 start (fun t => t.me.ge = some 0) := by decide
theorem test_gate_get_offset :
    after 0x3200000000000000 (regs none (some 0xAABB8E000008CCDD) none none) (fun t => t.me.res = some 0xAABBCCDD) := by decide
theorem test_gate_get_sel :
    after 0x3300000000000000 (regs none (some 0xAABB8E000008CCDD) none none) (fun t => t.me.res = some 0x0008) := by decide
theorem test_gate_get_attr :
    after 0x3400000000000000 (regs none (some 0xAABB8E000008CCDD) none none) (fun t => t.me.res = some 0x8E) := by decide

theorem test_idt_new :
    after 0x4000000000000000 (populated 0x8E)
      (fun t => t.mem = [] ∧ t.phase = .unbuilt ∧ t.me.handle = none) := by decide
/-- T1: the listed bytes are those that are not 0x00. -/
theorem test_idt_set_handler :
    after 0x4100000300101234 start (fun t =>
      t.mem = [(0x00102018, 0x34), (0x00102019, 0x12), (0x0010201A, 0x08), (0x0010201E, 0x10)] ∧
        t.phase = .populated ∧ t.me.handle = some 3) := by decide
/-- T3, with N_VECTORS = 4. -/
theorem test_idt_set_handler_vector_range :
    after 0x4100000400101000 start (raised .vectorRange 4) ∧ after 0x4100000400101000 loaded (raised .tableLocked 4) := by decide
/-- T6, in the configuration of 43_idt R192's example. -/
theorem test_idt_load :
    after 0x4200000000000000 State.reset (fun t =>
      t.idtr = some ⟨0x07FF, 0x00102000⟩ ∧ t.phase = .loaded ∧ t.hist = [.load 0x0010200007FF] ∧
        (List.range 6).map (pointerByte 0x0010200007FF) = [0xFF, 0x07, 0x00, 0x20, 0x10, 0x00]) := by decide
/-- D18, T9. -/
theorem test_idt_load_privilege :
    after 0x4200000000000000 { loaded with params := { loaded.params with contexts := [⟨3, []⟩] } } (raised .privilege 3) := by
  decide

theorem test_mutex_new : after 0x5000000000000005 start (fun t => t.mutex 0 = ⟨false, 5, none⟩) := by decide
theorem test_mutex_new_busy : after 0x5000000000000005 (holding none 1) (raised .mutexBusy 0) := by decide
theorem test_mutex_lock :
    after 0x5100000000000000 start (fun t => t.mutex 0 = ⟨true, 5, some 0⟩ ∧ t.me.pc = 1) := by decide
theorem test_mutex_lock_spins :
    after 0x5100000000000000 (holding none 1) (fun t => t.mutex 0 = ⟨true, 1, some 0⟩ ∧ t.me.pc = 0) := by decide
theorem test_mutex_unlock : after 0x5200000000000000 (holding none 1) (fun t => t.mutex 0 = ⟨false, 1, none⟩) := by decide
theorem test_mutex_unlock_not_held : after 0x5200000000000000 start (raised .guardNotHeld 0) := by decide
theorem test_mutex_read : after 0x5300000000000000 (holding none 5) (fun t => t.me.res = some 5) := by decide
theorem test_mutex_read_not_held : after 0x5300000000000000 start (raised .guardNotHeld 0) := by decide
theorem test_mutex_write : after 0x5400000000000007 (holding none 5) (fun t => (t.mutex 0).payload = 7) := by decide
theorem test_mutex_write_not_held : after 0x5400000000000007 start (raised .guardNotHeld 0) := by decide
theorem test_mutex_writeadd :
    after 0x5500000000000001 (holding (some 0xFFFFFFFF) 5) (fun t => (t.mutex 0).payload = 0) := by decide
/-- D19. -/
theorem test_mutex_writeadd_uninit : after 0x5500000000000001 start (raised .uninit 0) := by decide

/-! ### The step, the dispatch agent and the end of a context -/

/-- The word placed is the next command, right after reset. -/
theorem test_withFetchWord :
    (match step (State.reset.withFetchWord 64 0x1000000000000000) with
      | .next t => decide ((t.ctx 0).sel = some 0)
      | .fault _ => false
      | .refused _ => false) = true := by decide

/-- D2 at pc 0: the record of an illegal word. -/
theorem test_illegal_word :
    afterMove (.ctx 0) (oneOf 0x1700000000000000) (fun t =>
      t.fault = some ⟨.illegal, none, .ctx 0, some 0, some 0x1700000000000000, 0⟩ ∧ (t.ctx 0).pc = 0) := by decide

/-- The second command of the list ends the context, which releases its guard (44_spinlock R227). -/
theorem test_context_end :
    afterMove (.ctx 0) ((oneOf 0x5100000000000000).updMe fun k => { k with pc := 1 }) (fun t =>
      t.mutex 0 = ⟨false, 5, none⟩ ∧ (t.ctx 0).status = .done ∧
        t.hist = [.lockAttempt 0 0 true, .release 0 0]) := by decide

/-- A loaded table with a present INT32 gate of DPL 0 at vector 1, whose handler, context 1, has the given list. -/
def gated (handler : List Word) : State :=
  let p := { small .nested [[0x1000000000000000, 0x1000000000000000], handler] with vecCtx := [(1, 1)] }
  let s := (State.resetOf p).writeTable 0x00102008 8 0x00108E0000081234
  { (s.loadIdtr (pointerOf p)).setPhase .loaded with hist := [] }

theorem test_dispatch_delivers :
    afterMove (.request ⟨1, .software 0⟩) (gated [0x1000000000000000]) (fun t =>
      t.hist = [.deliver 1 (.software 0) 0x00101234 0x0008 0x8E] ∧ t.active = [0, 1] ∧
        (t.ctx 1).status = .running ∧ (t.ctx 1).pc = 0) := by decide

theorem test_dispatch_not_loaded :
    afterMove (.request ⟨1, .exception⟩) start (fun t =>
      t.fault = some ⟨.dispatch, some .notLoaded, .disp, none, none, 1⟩) := by decide

theorem test_dispatch_limit :
    afterMove (.request ⟨4, .exception⟩) loaded (fun t =>
      t.fault = some ⟨.dispatch, some .limit, .disp, none, none, 4⟩) := by decide

theorem test_dispatch_not_present :
    afterMove (.request ⟨3, .exception⟩) loaded (fun t =>
      t.fault = some ⟨.dispatch, some .notPresent, .disp, none, none, 3⟩) := by decide

theorem test_dispatch_dpl :
    afterMove (.request ⟨1, .software 3⟩) (gated []) (fun t =>
      t.fault = some ⟨.dispatch, some .dpl, .disp, none, none, 1⟩ ∧
        t.hist = [.dispatchFailed 1 (.software 3) .dpl]) := by decide

/-- A handler that is active already: REFUSED (60_exceptions R257). -/
theorem test_dispatch_reentered :
    afterMove (.request ⟨1, .exception⟩) ((gated [0x1000000000000000]).startHandler 1) (fun t => t.refused) := by decide

/-! ### Witnesses: for every statement with hypotheses, a state and operands that meet them all -/

theorem witness_DecodeEncode : (Instr.mutexWriteadd 255 7).wf 256 = true ∧ (Instr.mutexLock 0).wf 1 = true := by decide
theorem witness_EncodeDecode : decode 1 0x1300000000001FFF = .ok (.selSetIndex 8191) := by decide
theorem witness_LegalWords : Row.idtLoad ∈ opcodeTable ∧ Row.idtLoad.selects 0x4200000000000000 = true := by decide

/-- A word of every opcode: the hypothesis of every `WordRule` and `MutexWordRule`, with its must-be-zero bits clear. -/
theorem witness_WordRules :
    ([0x1000000000000000, 0x1100000000000003, 0x1200000000000001, 0x1300000000001FFF, 0x1400000000000000, 0x1500000000000000,
      0x1600000000000000, 0x2001000000000001, 0x210100000000000F, 0x2201000000000003, 0x2301000000000000, 0x2401000000000000,
      0x2501000000000000] : List Word).map opcodeField =
        [0x10, 0x11, 0x12, 0x13, 0x14, 0x15, 0x16, 0x20, 0x21, 0x22, 0x23, 0x24, 0x25] ∧
    ([0x30000000FFFFFFFF, 0x3100000000000000, 0x3200000000000000, 0x3300000000000000, 0x3400000000000000, 0x4000000000000000,
      0x4100FFFFFFFFFFFF, 0x4200000000000000, 0x50FF0000FFFFFFFF, 0x51FF000000000000, 0x52FF000000000000, 0x53FF000000000000,
      0x54FF0000FFFFFFFF, 0x55FF0000FFFFFFFF] : List Word).map opcodeField =
        [0x30, 0x31, 0x32, 0x33, 0x34, 0x40, 0x41, 0x42, 0x50, 0x51, 0x52, 0x53, 0x54, 0x55] := by decide

/-- The left side of 0x21's clause. -/
theorem witness_WordRule_gate_kind :
    opcodeField 0x2101000000000005 = 0x21 ∧ decode 1 0x2101000000000005 = .ok (.attrSetGateKind .tbl .task32) := by decide

theorem witness_StepRunsTheDecodedCommand :
    start.halted = false ∧ start.nextMove = some (.ctx 0) ∧ start.fetch 0 = some 0x1000000000000000 ∧
      decode start.params.nMutex 0x1000000000000000 = .ok .selNew := by decide

theorem witness_IllegalWord :
    (oneOf 0).fetch 0 = some 0 ∧ decode (oneOf 0).params.nMutex 0 = .error .noRow ∧
    (oneOf 0x2100000000000000).fetch 0 = some 0x2100000000000000 ∧
      decode (oneOf 0).params.nMutex 0x2100000000000000 = .error .badKind ∧
    (oneOf 0x5102000000000000).fetch 0 = some 0x5102000000000000 ∧
      decode (oneOf 0).params.nMutex 0x5102000000000000 = .error .mutexRange := by decide

/-- A state for each way to halt. -/
theorem witness_HaltedBlock :
    (start.raise .uninit 0).fault = some ⟨.uninit, none, .ctx 0, some 0, some 0x1000000000000000, 0⟩ ∧
    start.refuse.fault = none ∧ start.refuse.refused = true ∧ State.reset.completed = true := by decide

/-- A step that is taken, and a possible step of each kind. -/
theorem witness_StepsAreThePossibleOnes :
    (∃ t, step start = .next t) ∧ start.halted = false ∧ start.possible (.ctx 0) = true ∧
    start.possible (.request ⟨255, .software 3⟩) = true ∧ loaded.halted = false ∧ loaded.possible (.setIE true) = true :=
  ⟨⟨_, rfl⟩, by decide, by decide, by decide, by decide, by decide⟩

/-- A state with each outcome. -/
theorem witness_RunsEndInOneOutcome :
    start.outcome = none ∧ start.refuse.outcome = some .refused ∧ (start.raise .uninit 0).outcome = some .faulted ∧
    State.reset.outcome = some .completed := by decide

theorem witness_PossibleSteps :
    start.params.sched = .interleaved ∧ (gated []).params.sched = .nested ∧ (gated []).possible (.ctx 0) = true := by decide

/-- A first and a last context, a mutex, and NESTED. -/
theorem witness_Reset :
    0 < (small .nested [[0], []]).nCtx ∧ 1 < (small .nested [[0], []]).nCtx ∧ 1 < (small .nested [[0], []]).nMutex ∧
    (small .nested [[0], []]).mutexInit[1]? = some 0 ∧ (small .nested [[0], []]).sched = .nested := by decide

theorem witness_SelNew : start.curOk := by decide
theorem witness_SelSetters : (regs (some 0xFFFF) none none none).curOk ∧
    (regs (some 0xFFFF) none none none).me.sel = some 0xFFFF ∧ start.me.sel = none := by decide
theorem witness_SelGetters : (regs (some 0xAAAA) none none none).curOk ∧
    (regs (some 0xAAAA) none none none).me.sel = some 0xAAAA ∧ start.me.sel = none := by decide
theorem witness_SelectorRoundTrip :
    start.curOk ∧ [Instr.selSetIndex 8191, .selSetTi 1, .selSetRpl 3].Perm [.selSetRpl 3, .selSetTi 1, .selSetIndex 8191] ∧
    selIndex 0xFFFF = 8191 ∧ selTi 0xFFFF = 1 ∧ selRpl 0xFFFF = 3 := by decide

/-- Both targets; the table one on the last entry. -/
theorem witness_AttrCommands :
    (regs none (some 0xAABB8E000008CCDD) none none).curOk ∧ Memory.wf (regs none (some 0xAABB8E000008CCDD) none none).mem ∧
    AttrHolds (regs none (some 0xAABB8E000008CCDD) none none) .ge 0x8E ∧
    (populated 0x8E).curOk ∧ Memory.wf (populated 0x8E).mem ∧ AttrHolds (populated 0x8E) .tbl 0x8E ∧
    (populated 0x8E).phase ≠ .loaded :=
  ⟨by decide, by decide, ⟨_, rfl, by decide⟩, by decide, by decide, ⟨3, by decide, by decide, by decide⟩, by decide⟩

/-- One state for each fault. -/
theorem witness_AttrFaults :
    start.me.ge = none ∧ loaded.phase = .loaded ∧ start.phase ≠ .loaded ∧ start.me.handle = none ∧ loaded.me.handle = none := by
  decide

theorem witness_AttributeRoundTrip :
    (populated 0x80).curOk ∧ Memory.wf (populated 0x80).mem ∧ AttrHolds (populated 0x80) .tbl 0x80 ∧ attrBit4 0x80 = 0 ∧
    (populated 0x80).phase ≠ .loaded ∧
    [Instr.attrSetPresent .tbl 1, .attrSetDpl .tbl 3, .attrSetGateKind .tbl .trap32].Perm
      [.attrSetGateKind .tbl .trap32, .attrSetDpl .tbl 3, .attrSetPresent .tbl 1] :=
  ⟨by decide, by decide, ⟨3, by decide, by decide, by decide⟩, by decide, by decide, by decide⟩

theorem witness_GateNew : (regs (some 8) none none none).curOk ∧ (regs (some 8) none none none).me.sel = some 8 ∧
    start.me.sel = none := by decide
theorem witness_GateMissing : start.curOk := by decide
theorem witness_GateGetters :
    (regs none (some 0xAABB8E000008CCDD) none none).curOk ∧
    (regs none (some 0xAABB8E000008CCDD) none none).me.ge = some 0xAABB8E000008CCDD ∧ start.me.ge = none := by decide
theorem witness_GateEntryLayout :
    (regs (some 8) none none none).curOk ∧ (regs (some 8) none none none).me.sel = some 8 ∧
    ∀ i ∈ [Instr.attrSetGateKind .ge .int32, .attrSetPresent .ge 1],
      (∃ p, i = .attrSetPresent .ge p) ∨ (∃ k, i = .attrSetGateKind .ge k) ∨ ∃ d, i = .attrSetDpl .ge d := by
  refine ⟨by decide, by decide, ?_⟩
  simp

theorem witness_IdtNew : (populated 0x8E).curOk ∧ (populated 0x8E).phase ≠ .loaded ∧ loaded.phase = .loaded := by decide
theorem witness_ClearIsTheLoop : Memory.wf [(0x0010201D, 0x8E)] := by decide
/-- The last vector, and the first one past it. -/
theorem witness_IdtSetHandler :
    start.curOk ∧ Memory.wf start.mem ∧ start.phase ≠ .loaded ∧ (3 : BitVec 16).toNat < start.params.nVectors ∧
    loaded.phase = .loaded ∧ start.params.nVectors ≤ (4 : BitVec 16).toNat := by decide
theorem witness_SecondHandler :
    start.curOk ∧ Memory.wf start.mem ∧ start.phase ≠ .loaded ∧ (3 : BitVec 16).toNat < start.params.nVectors ∧
    ∀ i ∈ [Instr.attrSetGateKind .tbl .int32, .attrSetPresent .tbl 1],
      (∃ p, i = .attrSetPresent .tbl p) ∨ (∃ k, i = .attrSetGateKind .tbl k) ∨ ∃ d, i = .attrSetDpl .tbl d := by
  refine ⟨by decide, by decide, by decide, by decide, ?_⟩
  simp

/-- `start` with its context at the lowest privilege. -/
def userMode : State := { start with params := { start.params with contexts := [⟨3, [0x4200000000000000]⟩] } }

theorem witness_IdtLoad :
    start.curOk ∧ start.params.wf = true ∧ start.cpl start.cur = 0 ∧ start.phase ≠ .loaded ∧ userMode.cpl userMode.cur ≠ 0 ∧
    loaded.cpl loaded.cur = 0 ∧ loaded.phase = .loaded := by decide

theorem witness_NoMutationAfterLoad :
    loaded.phase = .loaded ∧ (∃ t, step loaded = .next t) ∧ loaded.cpl loaded.cur = 0 :=
  ⟨by decide, ⟨_, rfl⟩, by decide⟩

/-- A next state through each kind of step. -/
theorem witness_PhaseTransitions :
    (∃ t, exec (.idtSetHandler 3 0) start = .next t) ∧ (∃ t, takeMove (.request ⟨3, .external⟩) start = .next t) ∧
    (∃ t, takeMove (.setIE true) start = .next t) :=
  ⟨⟨_, rfl⟩, ⟨_, rfl⟩, ⟨_, rfl⟩⟩

theorem witness_Install :
    start.curOk ∧ Memory.wf start.mem ∧ start.phase ≠ .loaded ∧ 3 < start.params.nVectors ∧
    assemble (.idtInstall 3 0x00101234 (.name .int32) 3) =
      some [.idtSetHandler 3 0x00101234, .attrSetGateKind .tbl .int32, .attrSetDpl .tbl 3, .attrSetPresent .tbl 1] := by decide

/-- 30_encoding R108, R109: names, numbers in both bases, a mutex, a pseudo-instruction. -/
theorem test_assembleText :
    assembleText "SEL_SET_TI LDT\n\nATTR_SET_GATE_KIND ge, 0xe\n  GATE_NEW 0xAABBCCDD\nMUTEX_WRITE m2, 12\nCRITICAL_ADD m1, 1" =
      some [.selSetTi 1, .attrSetGateKind .ge .int32, .gateNew 0xAABBCCDD, .mutexWrite 2 12,
        .mutexLock 1, .mutexRead 1, .mutexWriteadd 1 1, .mutexUnlock 1] := by decide

/-- 30_encoding R108: an operand that does not fit is rejected, and so is a missing operand. -/
theorem test_assembleText_rejects :
    assembleText "SEL_SET_RPL 4" = none ∧ assembleText "ATTR_SET_GATE_KIND tbl, 0" = none ∧
    assembleText "SEL_SET_INDEX" = none ∧ assembleText "IDT_SET_HANDLER 65536, 0" = none := by decide

/-- The last mutex, free, and a held one. -/
theorem witness_MutexNew :
    start.curOk ∧ (1 : BitVec 8).toNat < start.mutexes.length ∧ (start.mutex 1).flag = false ∧
    ((holding none 1).mutex 0).flag = true := by decide
theorem witness_MutexLock :
    start.curOk ∧ (1 : BitVec 8).toNat < start.mutexes.length ∧ (start.mutex 1).flag = false ∧
    ((holding none 1).mutex 0).flag = true := by decide
/-- The holder, and a mutex that nobody holds. -/
theorem witness_GuardedCommands :
    (holding (some 0xFFFFFFFF) 1).curOk ∧ (0 : BitVec 8).toNat < (holding (some 0xFFFFFFFF) 1).mutexes.length ∧
    ((holding (some 0xFFFFFFFF) 1).mutex 0).holder = some (holding (some 0xFFFFFFFF) 1).cur ∧
    (holding (some 0xFFFFFFFF) 1).me.res = some 0xFFFFFFFF ∧
    (start.mutex 0).holder ≠ some start.cur ∧ start.me.res = none ∧
    (regs none none (some 7) none).me.res = some 7 ∧
    ((regs none none (some 7) none).mutex 0).holder ≠ some (regs none none (some 7) none).cur := by decide

/-- A context at its last command, which takes a guard it then loses. -/
def lastLock : State := (oneOf 0x5100000000000000).updMe fun k => { k with pc := 1 }

theorem witness_ContextEnd_interleaved :
    0 < lastLock.ctxs.length ∧ lastLock.fetch 0 = some 0x5100000000000000 ∧
    decode lastLock.params.nMutex 0x5100000000000000 = .ok (.mutexLock 0) ∧
    (∃ t, exec (.mutexLock 0) (lastLock.focus 0) = .next t ∧ (t.ctx 0).pc = (lastLock.prog 0).length ∧
      (t.mutex 0).holder = some 0 ∧ (t.mutex 1).holder ≠ some 0) ∧ lastLock.params.sched = .interleaved :=
  ⟨by decide, by decide, by decide, ⟨_, rfl, by decide, by decide, by decide⟩, by decide⟩

/-- A handler context with one command, started. -/
def handling : State := (gated [0x1000000000000000]).startHandler 1

theorem witness_ContextEnd_nested :
    1 < handling.ctxs.length ∧ handling.fetch 1 = some 0x1000000000000000 ∧
    decode handling.params.nMutex 0x1000000000000000 = .ok .selNew ∧
    (∃ t, exec .selNew (handling.focus 1) = .next t ∧ (t.ctx 1).pc = (handling.prog 1).length) ∧
    handling.params.sched = .nested ∧ handling.active = [0, 1] :=
  ⟨by decide, by decide, by decide, ⟨_, rfl, by decide⟩, by decide, by decide⟩

/-- The last part of the invariant, of a state whose GE registers all hold ⊥. -/
theorem entriesOk {s : State}
    (h : (s.phase = .unbuilt → s.mem = []) ∧ ∀ v < s.params.nVectors, Memory.read s.mem (entryAddr s.params v + 4) = 0 ∧
      attrBit4 (Memory.read s.mem (attrAddr s.params v)) = 0)
    (hg : ∀ c < s.params.nCtx, (s.ctx c).ge = none) : s.EntriesOk :=
  ⟨h.1, h.2, fun c hc e he => by rw [hg c hc] at he; cases he⟩

theorem witness_Inv_start : start.Inv :=
  ⟨by decide, by decide, by decide, by decide, by decide, by decide, by decide, entriesOk (by decide) (by decide)⟩
theorem witness_Inv_loaded : loaded.Inv :=
  ⟨by decide, by decide, by decide, by decide, by decide, by decide, by decide, entriesOk (by decide) (by decide)⟩
theorem witness_Inv_gated (l : List Word) (h : l = [] ∨ l = [0x1000000000000000]) : (gated l).Inv := by
  rcases h with rfl | rfl <;>
    exact ⟨by decide, by decide, by decide, by decide, by decide, by decide, by decide, entriesOk (by decide) (by decide)⟩
theorem witness_Inv_handling : handling.Inv :=
  ⟨by decide, by decide, by decide, by decide, by decide, by decide, by decide, entriesOk (by decide) (by decide)⟩

/-- `gated`, without a handler context of its own. -/
def unmapped : State := { gated [] with params := { (gated []).params with vecCtx := [] } }

theorem witness_Inv_unmapped : unmapped.Inv :=
  ⟨by decide, by decide, by decide, by decide, by decide, by decide, by decide, entriesOk (by decide) (by decide)⟩

/-- Vector 1 is delivered: its byte 5 is 0x8E, and level 0 passes DPL 0. -/
theorem witness_DispatchDelivers :
    unmapped.phase = .loaded ∧ (1 : Nat) < unmapped.params.nVectors ∧ unmapped.params.handlerOf 1 = none ∧
    Memory.read unmapped.mem (unmapped.params.tbase.toNat + 8 * 1 + 5) = 0x8E ∧
    (0x8E : Byte).extractLsb' 7 1 = 1 ∧ (0x8E : Byte).extractLsb' 0 4 ∈ [0x5#4, 0x6#4, 0x7#4, 0xE#4, 0xF#4] ∧
    (0 : BitVec 2).toNat ≤ ((0x8E : Byte).extractLsb' 5 2).toNat := by decide

/-- A present entry of no valid kind at vector 2 (A6). -/
def badKind : State := { unmapped with mem := Memory.write unmapped.mem 0x00102015 0x80 }

theorem witness_Inv_badKind : badKind.Inv :=
  ⟨by decide, by decide, by decide, by decide, by decide, by decide, by decide, entriesOk (by decide) (by decide)⟩

/-- A request for each subcode: not loaded; the first vector past the table; a missing entry, the last one; a bad kind; and
SOFTWARE(1) against DPL 0. -/
theorem witness_DispatchFailures :
    start.phase ≠ .loaded ∧ unmapped.phase = .loaded ∧ unmapped.params.nVectors ≤ 4 ∧ 3 < unmapped.params.nVectors ∧
    (Memory.read unmapped.mem (unmapped.params.tbase.toNat + 8 * 3 + 5)).extractLsb' 7 1 = 0 ∧
    badKind.phase = .loaded ∧ (Memory.read badKind.mem (badKind.params.tbase.toNat + 8 * 2 + 5)).extractLsb' 7 1 = 1 ∧
    (Memory.read badKind.mem (badKind.params.tbase.toNat + 8 * 2 + 5)).extractLsb' 0 4 ∉
      [0x5#4, 0x6#4, 0x7#4, 0xE#4, 0xF#4] ∧
    ((Memory.read unmapped.mem (unmapped.params.tbase.toNat + 8 * 1 + 5)).extractLsb' 5 2).toNat < (1 : BitVec 2).toNat := by
  decide

/-- The last vector of the table, and a memory that differs outside TR only. -/
theorem witness_DispatchReadsInside :
    loaded.Inv ∧ loaded.idtr = some ⟨31, 0x00102000⟩ ∧ 8 * 3 + 7 ≤ (31 : BitVec 16).toNat ∧
    ∀ a, loaded.params.tbase.toNat ≤ a → a < loaded.params.tbase.toNat + 8 * loaded.params.nVectors →
      Memory.read (Memory.write loaded.mem 0 1) a = Memory.read loaded.mem a := by
  refine ⟨witness_Inv_loaded, by decide, by decide, fun a ha _ => ?_⟩
  rw [Memory.read_write (by decide), if_neg]
  rintro rfl
  revert ha
  decide

/-- The bytes of entry 1 of `gated`, whatever its handler. -/
def gatedByte (k : Nat) : Byte := Memory.read (gated []).mem (0x00102000 + 8 * 1 + k)

theorem witness_Deliverable (l : List Word) (h : l = [] ∨ l = [0x1000000000000000]) :
    Deliverable (gated l) ⟨1, .exception⟩ gatedByte := by
  rcases h with rfl | rfl <;> exact ⟨by decide, by decide, fun _ => rfl, by decide, by decide, by simp⟩

/-- A delivery in each of the three states of the handler: IDLE with a command, IDLE with none, and active. -/
theorem witness_DeliveryStartsTheHandler :
    Deliverable handling ⟨1, .exception⟩ gatedByte ∧
    ((gated [0x1000000000000000]).ctx 1).status = .idle ∧ (gated [0x1000000000000000]).prog 1 ≠ [] ∧
    ((gated []).ctx 1).status = .idle ∧ (gated []).prog 1 = [] ∧ (handling.ctx 1).status ≠ .idle ∧
    handling.params.handlerOf 1 = some 1 ∧ handling.params.sched = .nested :=
  ⟨⟨by decide, by decide, fun _ => rfl, by decide, by decide, by simp⟩, by decide, by decide, by decide, by decide, by decide,
    by decide, by decide⟩

/-- Two contexts. -/
def two : State := { State.resetOf (small .interleaved [[0x4000000000000000], [0x1000000000000000]]) with plan := [.ctx 0] }

theorem witness_CommandsWriteOnlyTheirOwnRegisters : (∃ t, exec .idtNew two = .next t) ∧ 1 ≠ two.cur :=
  ⟨⟨_, rfl⟩, by decide⟩

/-- A fault of a context, and one of the dispatch agent. -/
theorem witness_FaultsArePrecise :
    (∃ t, step (oneOf 0) = .next t ∧ t.fault = some ⟨.illegal, none, .ctx 0, some 0, some 0, 0⟩) ∧
    (∃ t, step { start with plan := [.request ⟨3, .exception⟩] } = .next t ∧
      t.fault = some ⟨.dispatch, some .notLoaded, .disp, none, none, 3⟩) :=
  ⟨⟨_, rfl, by decide⟩, ⟨_, rfl, by decide⟩⟩

theorem witness_GuardInvariantKept :
    (∀ m < (holding none 1).mutexes.length,
      (((holding none 1).mutex m).flag = true ↔ ((holding none 1).mutex m).holder ≠ none)) ∧
    ∃ t, step (holding none 1) = .next t :=
  ⟨by decide, ⟨_, rfl⟩⟩

theorem witness_MemoryCanonicalKept : Memory.wf (populated 0x8E).mem ∧ ∃ t, step (populated 0x8E) = .next t :=
  ⟨by decide, ⟨_, rfl⟩⟩
theorem witness_ParametersNeverChange : ∃ t, step start = .next t := ⟨_, rfl⟩
theorem witness_LaunchEstablishesInvariant : ∃ s, State.launch Params.default = .next s := ⟨_, rfl⟩
theorem witness_StepKeepsInvariant : handling.Inv ∧ ∃ t, step { handling with plan := [.ctx 1] } = .next t :=
  ⟨witness_Inv_handling, ⟨_, rfl⟩⟩
theorem witness_RunsEndInOneOutcome_goesOn : start.Inv ∧ start.outcome = none := ⟨witness_Inv_start, by decide⟩
theorem witness_UnhaltedBlockSteps : start.Inv ∧ start.halted = false := ⟨witness_Inv_start, by decide⟩

/-- Context 0 holds mutex 0 and stands at MUTEX_LOCK m0. -/
def relocked : State := (oneOf 0x5100000000000000).updMutex 0 fun _ => ⟨true, 5, some 0⟩

theorem witness_ReentrantLockHangs : relocked.relocking 0 0 ∧ ∃ t, step relocked = .next t :=
  ⟨⟨by decide, by decide, by decide, 0x5100000000000000, by decide, by decide⟩, ⟨_, rfl⟩⟩

theorem witness_ReentrantLockDiverges :
    relocked.Inv ∧ relocked.halted = false ∧ relocked.params.sched = .interleaved ∧ relocked.params.nCtx = 1 ∧
    relocked.relocking 0 0 :=
  ⟨⟨by decide, by decide, by decide, by decide, by decide, by decide, by decide, entriesOk (by decide) (by decide)⟩,
    by decide, by decide, by decide, witness_ReentrantLockHangs.1⟩

/-- Context 0 holds mutex 0; above it handler context 1 stands at MUTEX_LOCK m0. -/
def deadlocked : State :=
  { ((gated [0x5100000000000000]).startHandler 1).updMutex 0 fun _ => ⟨true, 5, some 0⟩ with plan := [.ctx 1] }

theorem witness_HandlerDeadlockHangs : deadlocked.Inv ∧ deadlocked.handlerDeadlock 0 1 0 ∧ ∃ t, step deadlocked = .next t :=
  ⟨⟨by decide, by decide, by decide, by decide, by decide, by decide, by decide, entriesOk (by decide) (by decide)⟩,
    ⟨by decide, by decide, by decide, ⟨by decide, 0x5100000000000000, by decide, by decide⟩, [], [], [], by decide⟩, ⟨_, rfl⟩⟩

/-- One context that runs CRITICAL_ADD m1, 1 once. -/
def adding : Params := small .interleaved [criticalAddWords 1]

/-- Its run, step by step. -/
def addingRun : Nat → State
  | 0 => State.resetOf adding
  | n + 1 =>
    match takeMove (.ctx 0) (addingRun n).consumeChoice with
    | .next t => t
    | .fault _ => addingRun n
    | .refused _ => addingRun n

theorem witness_ContendedIncrements :
    adding.wf = true ∧ contention adding 1 [1] ∧ adding.mutexInit[(1 : BitVec 8).toNat]? = some 0 ∧
    Reaches (State.resetOf adding) (addingRun 4) ∧ (addingRun 4).outcome = some .completed :=
  ⟨by decide, ⟨by decide, by decide⟩, by decide,
    .step (m := .ctx 0) (.step (m := .ctx 0) (.step (m := .ctx 0) (.step (m := .ctx 0) .refl
      ⟨by decide, by decide, rfl⟩) ⟨by decide, by decide, rfl⟩) ⟨by decide, by decide, rfl⟩) ⟨by decide, by decide, rfl⟩,
    by decide⟩

end Sys2Proof.Tests
end

section
/-! The registers of a context after each write, what a command leaves unchanged, and what one step can do. -/

namespace Sys2Proof.Machine

/-! ### The registers of any context after each write -/

/-- A write of the executing context's registers, read at any context. -/
theorem State.ctx_updMe (s : State) (f : Ctx → Ctx) (c : Nat) :
    (s.updMe f).ctx c = if s.cur = c ∧ c < s.ctxs.length then f (s.ctx c) else s.ctx c := s.ctx_updCtx _ _ _

/-- A register the write keeps reads as before, in every context. -/
theorem State.register_updMe {α : Type} (s : State) {f : Ctx → Ctx} (g : Ctx → α) (c : Nat)
    (hg : ∀ k, g (f k) = g k := by intro; rfl) : g ((s.updMe f).ctx c) = g (s.ctx c) := by
  rw [State.ctx_updMe]
  split
  · exact hg _
  · rfl

@[simp] theorem State.status_setSel (s : State) (x : Selector) (c : Nat) :
    ((s.setSel x).ctx c).status = (s.ctx c).status := s.register_updMe Ctx.status c
@[simp] theorem State.status_setGe (s : State) (e : GateEntry) (c : Nat) :
    ((s.setGe e).ctx c).status = (s.ctx c).status := s.register_updMe Ctx.status c
@[simp] theorem State.status_setRes (s : State) (x : Payload) (c : Nat) :
    ((s.setRes x).ctx c).status = (s.ctx c).status := s.register_updMe Ctx.status c
@[simp] theorem State.status_setHandle (s : State) (v c : Nat) :
    ((s.setHandle v).ctx c).status = (s.ctx c).status := s.register_updMe Ctx.status c
@[simp] theorem State.status_advance (s : State) (c : Nat) :
    (s.advance.ctx c).status = (s.ctx c).status := s.register_updMe Ctx.status c
@[simp] theorem State.status_clearHandles (s : State) (c : Nat) :
    (s.clearHandles.ctx c).status = (s.ctx c).status := by rw [State.ctx_clearHandles]

@[simp] theorem State.pc_setSel (s : State) (x : Selector) (c : Nat) :
    ((s.setSel x).ctx c).pc = (s.ctx c).pc := s.register_updMe Ctx.pc c
@[simp] theorem State.pc_setGe (s : State) (e : GateEntry) (c : Nat) :
    ((s.setGe e).ctx c).pc = (s.ctx c).pc := s.register_updMe Ctx.pc c
@[simp] theorem State.pc_setRes (s : State) (x : Payload) (c : Nat) :
    ((s.setRes x).ctx c).pc = (s.ctx c).pc := s.register_updMe Ctx.pc c
@[simp] theorem State.pc_setHandle (s : State) (v c : Nat) :
    ((s.setHandle v).ctx c).pc = (s.ctx c).pc := s.register_updMe Ctx.pc c
@[simp] theorem State.pc_clearHandles (s : State) (c : Nat) :
    (s.clearHandles.ctx c).pc = (s.ctx c).pc := by rw [State.ctx_clearHandles]

/-- PC[c] after the advance: one further in the executing context (00_scope R9, R12). -/
theorem State.pc_advance (s : State) (c : Nat) :
    (s.advance.ctx c).pc = if s.cur = c ∧ c < s.ctxs.length then (s.ctx c).pc + 1 else (s.ctx c).pc := by
  rw [State.advance, State.ctx_updMe]
  split <;> rfl

@[simp] theorem State.ge_setSel (s : State) (x : Selector) (c : Nat) :
    ((s.setSel x).ctx c).ge = (s.ctx c).ge := s.register_updMe Ctx.ge c
@[simp] theorem State.ge_setRes (s : State) (x : Payload) (c : Nat) :
    ((s.setRes x).ctx c).ge = (s.ctx c).ge := s.register_updMe Ctx.ge c
@[simp] theorem State.ge_setHandle (s : State) (v c : Nat) :
    ((s.setHandle v).ctx c).ge = (s.ctx c).ge := s.register_updMe Ctx.ge c
@[simp] theorem State.ge_advance (s : State) (c : Nat) :
    (s.advance.ctx c).ge = (s.ctx c).ge := s.register_updMe Ctx.ge c
@[simp] theorem State.ge_clearHandles (s : State) (c : Nat) :
    (s.clearHandles.ctx c).ge = (s.ctx c).ge := by rw [State.ctx_clearHandles]

/-- GE[c] after a write of GE: the written value in the executing context, as before elsewhere. -/
theorem State.ge_setGe (s : State) (e : GateEntry) (c : Nat) :
    ((s.setGe e).ctx c).ge = if s.cur = c ∧ c < s.ctxs.length then some e else (s.ctx c).ge := by
  rw [State.setGe, State.ctx_updMe]
  split <;> rfl

@[simp] theorem State.handle_setSel (s : State) (x : Selector) (c : Nat) :
    ((s.setSel x).ctx c).handle = (s.ctx c).handle := s.register_updMe Ctx.handle c
@[simp] theorem State.handle_setGe (s : State) (e : GateEntry) (c : Nat) :
    ((s.setGe e).ctx c).handle = (s.ctx c).handle := s.register_updMe Ctx.handle c
@[simp] theorem State.handle_setRes (s : State) (x : Payload) (c : Nat) :
    ((s.setRes x).ctx c).handle = (s.ctx c).handle := s.register_updMe Ctx.handle c
@[simp] theorem State.handle_advance (s : State) (c : Nat) :
    (s.advance.ctx c).handle = (s.ctx c).handle := s.register_updMe Ctx.handle c
@[simp] theorem State.handle_clearHandles (s : State) (c : Nat) :
    (s.clearHandles.ctx c).handle = none := by rw [State.ctx_clearHandles]

/-- HANDLE[c] after a write of HANDLE: the written value in the executing context, as before elsewhere. -/
theorem State.handle_setHandle (s : State) (v c : Nat) :
    ((s.setHandle v).ctx c).handle = if s.cur = c ∧ c < s.ctxs.length then some v else (s.ctx c).handle := by
  rw [State.setHandle, State.ctx_updMe]
  split <;> rfl

/-! ### What a command leaves unchanged -/

section
variable {s t : State} {i : Instr}

theorem Effect.params (h : Effect s i t) : t.params = s.params := by cases h <;> rfl

theorem Effect.active (h : Effect s i t) : t.active = s.active := by cases h <;> rfl

theorem Effect.ctxs_length (h : Effect s i t) : t.ctxs.length = s.ctxs.length := by
  cases h <;> simp

theorem Effect.mutexes_length (h : Effect s i t) : t.mutexes.length = s.mutexes.length := by
  cases h <;> simp [State.release, State.setPayload]

theorem Effect.status (h : Effect s i t) (c : Nat) : (t.ctx c).status = (s.ctx c).status := by
  cases h <;> simp

/-- A command leaves PC[c] of its context or moves it one further. -/
theorem Effect.pc (h : Effect s i t) : (t.ctx s.cur).pc = (s.ctx s.cur).pc ∨ (t.ctx s.cur).pc = (s.ctx s.cur).pc + 1 := by
  cases h <;> simp [State.pc_advance] <;> omega

/-- A command writes registers of no other context, but for HANDLE on IDT_NEW and IDT_LOAD (10_state R21). -/
theorem Effect.ctx_other (h : Effect s i t) {c : Nat} (hc : c ≠ s.cur) :
    t.ctx c = s.ctx c ∨ ((i = .idtNew ∨ i = .idtLoad) ∧ t.ctx c = { s.ctx c with handle := none }) := by
  have hadv {u : State} {k : Ctx} (hk : u.ctx c = k) (hu : u.cur = s.cur) : u.advance.ctx c = k :=
    (u.ctx_advance_ne (hu ▸ hc)).trans hk
  cases h with
  | cleared => exact .inr ⟨.inl rfl, hadv (State.ctx_clearHandles _ c) rfl⟩
  | loaded => exact .inr ⟨.inr rfl, hadv (State.ctx_clearHandles _ c) rfl⟩
  | raised => exact .inl rfl
  | spun => exact .inl rfl
  | wroteSel => exact .inl (hadv (State.ctx_setSel_ne _ _ hc) rfl)
  | wroteRes => exact .inl (hadv (State.ctx_setRes_ne _ _ hc) rfl)
  | wroteGe => exact .inl (hadv (State.ctx_setGe_ne _ _ hc) rfl)
  | wroteGeAttr => exact .inl (hadv (State.ctx_setGe_ne _ _ hc) rfl)
  | wroteEntry => exact .inl (hadv (State.ctx_setHandle_ne _ _ hc) rfl)
  | wroteTableAttr => exact .inl (hadv rfl rfl)
  | mutexNew => exact .inl (hadv rfl rfl)
  | acquired => exact .inl (hadv rfl rfl)
  | released => exact .inl (hadv rfl rfl)
  | wrotePayload => exact .inl (hadv rfl rfl)

/-- What a command does to the guard of a mutex: nothing, or it frees it, or the executing context takes it
(44_spinlock R220 to R226). -/
theorem Effect.guard_cases (h : Effect s i t) (m : Nat) :
    ((t.mutex m).flag = (s.mutex m).flag ∧ (t.mutex m).holder = (s.mutex m).holder) ∨
    ((t.mutex m).flag = false ∧ (t.mutex m).holder = none) ∨
    ((t.mutex m).flag = true ∧ (t.mutex m).holder = some s.cur) := by
  cases h with
  | mutexNew n d =>
    simp only [State.advance_mutex, State.mutex_updMutex]
    split <;> simp
  | acquired n =>
    simp only [State.advance_mutex, State.record_mutex, State.mutex_updMutex]
    split <;> simp
  | released n =>
    simp only [State.advance_mutex, State.record_mutex, State.release, State.mutex_updMutex]
    split <;> simp [Mutex.released]
  | wrotePayload _ n d =>
    simp only [State.advance_mutex, State.setPayload, State.mutex_updMutex]
    split <;> simp
  | _ => exact .inl ⟨rfl, rfl⟩

end

/-! ### What a step can do -/

theorem State.endIfFinished_eq_endContext {s : State} {c : Nat} (h : (s.ctx c).pc = (s.prog c).length) :
    s.endIfFinished c = s.endContext c := by simp [State.endIfFinished, h]

theorem State.endIfFinished_eq_self {s : State} {c : Nat} (h : (s.ctx c).pc ≠ (s.prog c).length) :
    s.endIfFinished c = s := by simp [State.endIfFinished, h]

/-- What the end of context c does to the guard of a mutex: nothing, or it frees it (44_spinlock R227). -/
theorem State.guard_endIfFinished (s : State) (c m : Nat) :
    (s.endIfFinished c).mutex m = s.mutex m ∨
    (((s.endIfFinished c).mutex m).flag = false ∧ ((s.endIfFinished c).mutex m).holder = none) := by
  unfold State.endIfFinished
  split
  · rw [State.mutex_endContext]
    split
    · exact .inr ⟨rfl, rfl⟩
    · exact .inl rfl
  · exact .inl rfl

@[simp] theorem State.endIfFinished_params (s : State) (c : Nat) : (s.endIfFinished c).params = s.params := by
  unfold State.endIfFinished
  split
  · exact s.endContext_params c
  · rfl

/-- Context h started from command 0 and pushed on ACTIVE, before the test for the end of its list (60_exceptions R257). -/
def State.pushHandler (s : State) (h : Nat) : State :=
  (s.setActive (s.active ++ [h])).updCtx h fun k => { k with status := .running, pc := 0 }

theorem State.startHandler_eq (s : State) (h : Nat) : s.startHandler h = (s.pushHandler h).endIfFinished h := rfl

/-- A context with a word to fetch is not at the end of its list (10_state R22). -/
theorem State.pc_lt_of_fetch {s : State} {c : Nat} {w : Word} (h : s.fetch c = some w) : (s.ctx c).pc < (s.prog c).length :=
  (List.getElem?_eq_some_iff.1 h).1

/-- The request passes every test of the dispatch lookup, and ev is the delivery of the entry read (60_exceptions R256). -/
def DispatchPasses (s : State) (r : Request) (ev : Event) : Prop :=
  ∃ t e, s.idtr = some t ∧ ¬ t.limit.toNat < 8 * r.vector + 7 ∧
    e = Memory.readEntry s.mem (t.base.toNat + 8 * r.vector) ∧
    attrPresent (gateAttr e) ≠ 0 ∧ attrKindValid (gateAttr e) = true ∧ dplFails r.source (gateAttr e) = false ∧
    ev = .deliver r.vector r.source (gateOffset e) (gateSel e) (gateAttr e)

/-- The effects of the steps on the state (70_reset R283): a command of a context, a dispatch, a change of IE. -/
inductive MoveEffect (s : State) : Move → State → Prop where
  /-- The word at PC[c] is illegal (30_encoding R105). -/
  | illegal (c : Nat) (w : Word) (x : Illegal) (hw : s.fetch c = some w) (hx : decode s.params.nMutex w = .error x) :
      MoveEffect s (.ctx c) ((s.focus c).raise .illegal 0)
  /-- A command of context c, and the end of the context if its list is at the end (10_state R22, R23). -/
  | command (c : Nat) (w : Word) (i : Instr) (t : State) (hw : s.fetch c = some w)
      (hi : decode s.params.nMutex w = .ok i) (he : exec i (s.focus c) = .next t) :
      MoveEffect s (.ctx c) (t.endIfFinished c)
  /-- A dispatch fails (60_exceptions R256). -/
  | failed (r : Request) (sub : DispatchSub) : MoveEffect s (.request r) (s.raiseDispatch sub r)
  /-- A dispatch delivers and starts nothing (60_exceptions R256, R257). -/
  | delivered (r : Request) (ev : Event) (hd : DispatchPasses s r ev)
      (hq : s.params.sched = .interleaved ∨ s.params.handlerOf r.vector = none) : MoveEffect s (.request r) (s.record ev)
  /-- A dispatch delivers and starts an IDLE handler (60_exceptions R257). -/
  | started (r : Request) (ev : Event) (h : Nat) (hd : DispatchPasses s r ev) (hn : s.params.sched = .nested)
      (hh : s.params.handlerOf r.vector = some h) (hi : (s.ctx h).status = .idle) :
      MoveEffect s (.request r) (((s.record ev).pushHandler h).endIfFinished h)
  /-- A dispatch delivers to a handler that is not IDLE: REFUSED (60_exceptions R257). -/
  | refused (r : Request) (ev : Event) (h : Nat) (hd : DispatchPasses s r ev) (hn : s.params.sched = .nested)
      (hh : s.params.handlerOf r.vector = some h) (hi : (s.ctx h).status ≠ .idle) :
      MoveEffect s (.request r) (s.record ev).refuse
  /-- The environment writes IE (60_exceptions R259). -/
  | wroteIe (b : Bool) : MoveEffect s (.setIE b) (s.setIe b)

/-- A step does one of the effects, and nothing else. -/
theorem takeMove_effect {m : Move} {s t : State} (h : takeMove m s = .next t) : MoveEffect s m t := by
  cases m with
  | ctx c =>
    obtain ⟨w, hw, ⟨x, hx, rfl⟩ | ⟨i, t, hi, he, rfl⟩⟩ := runContext_next h
    · exact .illegal c w x hw hx
    · exact .command c w i t hw hi he
  | request r =>
    obtain ⟨sub, rfl⟩ | ⟨d, e, hd, hl, he, hp, hk, hf, rfl⟩ := dispatch_next h
    · exact .failed r sub
    · have hpass : DispatchPasses s r _ := ⟨d, e, hd, hl, he, hp, hk, hf, rfl⟩
      obtain ⟨hq, ha⟩ | ⟨h, hn, hh, ⟨hi, ha⟩ | ⟨hi, ha⟩⟩ := (s.record _).activate_cases r.vector
      · rw [ha]; exact .delivered r _ hpass hq
      · rw [ha, State.startHandler_eq]; exact .started r _ h hpass hn hh hi
      · rw [ha]; exact .refused r _ h hpass hn hh hi
  | setIE b => cases h; exact .wroteIe b

theorem State.halted_eq_false_iff {s : State} :
    s.halted = false ↔ s.fault = none ∧ s.refused = false ∧ s.completed = false := by
  simp [State.halted, and_assoc]

/-- A step that happens takes a possible move of a state that is not halted (70_reset R283). -/
theorem step_trans {s t : State} (h : step s = .next t) : ∃ m, Trans m s t := by
  unfold step stepOnce at h
  split at h
  · cases h
  · rename_i hf
    split at h
    · cases h
    · rename_i hr
      split at h
      · cases h
      · rename_i hc
        split at h
        · cases h
        · rename_i m hm
          exact ⟨m, State.halted_eq_false_iff.2 ⟨hf, by simpa using hr, by simpa using hc⟩, State.possible_of_nextMove hm, h⟩

/-- The step of a block that is not halted takes the schedule's choice (70_reset R283). -/
theorem step_eq_takeMove {s : State} {m : Move} (hh : s.halted = false) (hm : s.nextMove = some m) :
    step s = takeMove m s.consumeChoice := by
  obtain ⟨hf, hr, hc⟩ := State.halted_eq_false_iff.1 hh
  simp [step, stepOnce, hf, hr, hc, hm]

/-- One command of a context whose word decodes: the command, then the end of the context (10_state R22, R23). -/
theorem runContext_of_decode {s : State} {c : Nat} {w : Word} {i : Instr} (hw : s.fetch c = some w)
    (hi : decode s.params.nMutex w = .ok i) :
    runContext c s = onNext (exec i (s.focus c)) fun t => t.endIfFinished c := by
  simp [runContext, hw, hi]

end Sys2Proof.Machine
end

section
/-! The parameters, the pairing of FLAG and HOLDER, the registers of the other contexts, and the end of a context
(10_state R21, R22, R23, R33, R41). -/

namespace Sys2Proof.Machine

/-! ### The parameters -/

theorem MoveEffect.params {s t : State} {m : Move} (h : MoveEffect s m t) : t.params = s.params := by
  cases h with
  | command c w i t _ _ he => exact (t.endIfFinished_params c).trans (exec_effect he).params
  | started r ev h => exact State.endIfFinished_params _ h
  | _ => rfl

/-! ### FLAG and HOLDER (10_state R33) -/

/-- FLAG[m] = 1 if and only if HOLDER[m] ≠ ⊥ (10_state R33). -/
def Mutex.Paired (x : Mutex) : Prop := x.flag = true ↔ x.holder ≠ none

/-- Every mutex is paired, those of no index included. -/
def State.GuardsPaired (s : State) : Prop := ∀ m, (s.mutex m).Paired

/-- The indices past the last mutex read as a free one, so they may be left out (log 17). -/
theorem State.guardsPaired_iff (s : State) :
    s.GuardsPaired ↔ ∀ m < s.mutexes.length, ((s.mutex m).flag = true ↔ (s.mutex m).holder ≠ none) := by
  constructor
  · intro h m _
    exact h m
  · intro h m
    by_cases hm : m < s.mutexes.length
    · exact h m hm
    · simp [s.mutex_of_le (Nat.le_of_not_lt hm), Mutex.Paired, Mutex.absent]

theorem Mutex.Paired.of_free {x : Mutex} (hf : x.flag = false) (hh : x.holder = none) : x.Paired := by
  simp [Mutex.Paired, hf, hh]

theorem Mutex.Paired.of_held {x : Mutex} {c : Nat} (hf : x.flag = true) (hh : x.holder = some c) : x.Paired := by
  simp [Mutex.Paired, hf, hh]

theorem Effect.guardsPaired {s t : State} {i : Instr} (h : Effect s i t) (hs : s.GuardsPaired) : t.GuardsPaired := by
  intro m
  obtain ⟨hf, hh⟩ | ⟨hf, hh⟩ | ⟨hf, hh⟩ := h.guard_cases m
  · rw [Mutex.Paired, hf, hh]
    exact hs m
  · exact .of_free hf hh
  · exact .of_held hf hh

theorem State.GuardsPaired.endIfFinished {s : State} (hs : s.GuardsPaired) (c : Nat) : (s.endIfFinished c).GuardsPaired := by
  intro m
  obtain hm | ⟨hf, hh⟩ := s.guard_endIfFinished c m
  · rw [hm]
    exact hs m
  · exact .of_free hf hh

theorem MoveEffect.guardsPaired {s t : State} {m : Move} (h : MoveEffect s m t) (hs : s.GuardsPaired) : t.GuardsPaired := by
  cases h with
  | command c w i t _ _ he =>
    have hf : (s.focus c).GuardsPaired := hs
    exact ((exec_effect he).guardsPaired hf).endIfFinished c
  | started r ev h =>
    have hp : ((s.record ev).pushHandler h).GuardsPaired := hs
    exact hp.endIfFinished h
  | _ => exact hs

end Sys2Proof.Machine

open Sys2Proof Sys2Proof.Machine

/-- Settles O46: a step pairs FLAG and HOLDER in every mutex it writes, and leaves the others. -/
theorem guardInvariantKept : Obligations.GuardInvariantKept := by
  unfold Obligations.GuardInvariantKept
  intro s t hs hstep
  obtain ⟨m, -, -, hm⟩ := step_trans hstep
  rw [← State.guardsPaired_iff] at hs ⊢
  have hc : s.consumeChoice.GuardsPaired := hs
  exact (takeMove_effect hm).guardsPaired hc

/-- Settles O48: no effect of a step writes the parameters, and CTX_CPL and PROG are read from them. -/
theorem parametersNeverChange : Obligations.ParametersNeverChange := by
  unfold Obligations.ParametersNeverChange
  intro s t hstep
  obtain ⟨m, -, -, hm⟩ := step_trans hstep
  have hp : t.params = s.params := (takeMove_effect hm).params
  exact ⟨hp, fun c => by rw [State.cpl, State.cpl, hp], fun c => by rw [State.prog, State.prog, hp]⟩

/-- Settles O44, by the effects of a command on the contexts other than its own. -/
theorem commandsWriteOnlyTheirOwnRegisters : Obligations.CommandsWriteOnlyTheirOwnRegisters := by
  unfold Obligations.CommandsWriteOnlyTheirOwnRegisters
  intro i s t h c hc
  exact (exec_effect h).ctx_other hc

/-- Settles O5: the step takes the schedule's choice, and the command of a word that decodes is executed. -/
theorem stepRunsTheDecodedCommand : Obligations.StepRunsTheDecodedCommand := by
  unfold Obligations.StepRunsTheDecodedCommand
  intro s c w i hh hm hw hi
  have hw' : s.consumeChoice.fetch c = some w := hw
  rw [step_eq_takeMove hh hm]
  exact runContext_of_decode hw' hi

/-- Settles O39: the step is the command, then `endContext`, whose writes are read one field at a time. -/
theorem contextEndReleasesItsGuards : Obligations.ContextEndReleasesItsGuards := by
  unfold Obligations.ContextEndReleasesItsGuards
  intro s c w i t hc hw hi hexec hpc
  have he : Effect (s.focus c) i t := exec_effect hexec
  have hp : t.params = s.params := he.params
  have hlt : c < t.ctxs.length := by rw [he.ctxs_length]; exact hc
  have hend : (t.ctx c).pc = (t.prog c).length := by rw [hpc, State.prog, State.prog, hp]
  have hown : (t.endContext c).ctx c = Ctx.ended s.params c (t.ctx c) := by rw [State.ctx_endContext, if_pos ⟨rfl, hlt⟩, hp]
  refine ⟨t.endContext c, ?_, by simp, ?_, ?_, ?_, ?_, ?_, ?_, ?_⟩
  · rw [takeMove, runContext_of_decode hw hi, hexec, onNext, State.endIfFinished_eq_endContext hend]
  · intro m hm
    rw [State.mutex_endContext, if_pos hm, Mutex.released]
  · intro m hm
    rw [State.mutex_endContext, if_neg hm]
  · intro hs
    rw [hown, State.endContext_active]
    simp [Ctx.ended, hs, hp]
  · intro hs
    rw [hown, State.endContext_active]
    simp +contextual [Ctx.ended, hs, hp]
  · intro c' hne
    rw [State.ctx_endContext, if_neg fun h => hne h.1.symm]
  · intro a
    rw [State.endContext_mem]
  · constructor <;> simp

end

section
/-! Every step keeps the invariant of the block: its parts through one command, through the end of a context and through the
start of a handler, then the whole. -/

namespace Sys2Proof.Machine

/-! ### The bytes of the table -/

/-- Byte k of a gate entry as a quotient of its image, the form a little-endian write stores it in. -/
theorem ofNat_div_eq_gateByte (e : GateEntry) (k : Nat) : BitVec.ofNat 8 (e.toNat / 2 ^ (8 * k)) = gateByte e k := by
  rw [gateByte, BitVec.extractLsb', Nat.shiftRight_eq_div_pow]

/-- The bytes of the table after the write of entry v: the new entry's bytes there, and every other entry as before. -/
theorem Memory.read_writeEntry {m : Memory} (h : Memory.wf m) (p : Params) (e : GateEntry) (v v' : Nat) {k : Nat} (hk : k < 8) :
    Memory.read (Memory.writeLE m (entryAddr p v) 8 e.toNat) (entryAddr p v' + k) =
      if v' = v then gateByte e k else Memory.read m (entryAddr p v' + k) := by
  rw [Memory.read_writeLE h]
  by_cases hv : v' = v
  · subst hv
    rw [if_pos (by omega), if_pos rfl, Nat.add_sub_cancel_left, ofNat_div_eq_gateByte]
  · have hout : ¬ (entryAddr p v ≤ entryAddr p v' + k ∧ entryAddr p v' + k < entryAddr p v + 8) := by
      simp only [entryAddr]
      omega
    rw [if_neg hout, if_neg hv]

/-- The bytes of the table after the write of byte 5 of entry v: that byte is new, and every other as before. -/
theorem Memory.read_writeAttr {m : Memory} (h : Memory.wf m) (p : Params) (v : Nat) (a : Byte) (b : Nat) :
    Memory.read (Memory.writeLE m (attrAddr p v) 1 a.toNat) b = if b = attrAddr p v then a else Memory.read m b := by
  rw [Memory.read_writeLE h]
  by_cases hb : b = attrAddr p v
  · simp [hb]
  · rw [if_neg (by omega), if_neg hb]

/-- An entry of a vector below N_VECTORS lies in TR (10_state R28). -/
theorem inTable_entry {p : Params} {v : Nat} (h : v < p.nVectors) : inTable p (entryAddr p v) 8 = true := by
  rw [inTable, Bool.and_eq_true, decide_eq_true_eq, decide_eq_true_eq, entryAddr, Params.tableBytes]
  omega

theorem State.memoryOk_of_nil {s : State} (h : s.mem = []) : s.MemoryOk := by
  rw [State.MemoryOk, h]
  exact ⟨Memory.wf_nil, nofun⟩

theorem State.MemoryOk.writeTable {s : State} (h : s.MemoryOk) {a n : Nat} (ht : inTable s.params a n = true) (v : Nat) :
    (s.writeTable a n v).MemoryOk := by
  obtain ⟨hwf, hin⟩ := h
  simp only [inTable, Bool.and_eq_true, decide_eq_true_eq] at ht
  refine ⟨Memory.wf_writeLE hwf a n v, fun x hx => ?_⟩
  obtain hx | hx := Memory.mem_writeLE hx
  · exact hin x hx
  · simp only [State.writeTable_params]
    omega

/-- A clear of TR leaves no byte listed (43_idt R190). -/
theorem State.MemoryOk.clearTable_mem {s : State} (h : s.MemoryOk) : s.clearTable.mem = [] :=
  List.filter_eq_nil_iff.2 fun x hx => by simpa using h.2 x hx

/-! ### The parts of the invariant through one command -/

/-- A handle names an entry, and only while the table is POPULATED (41_attribute R150). -/
abbrev State.HandleOk (s : State) (c : Nat) : Prop :=
  ∀ v ∈ (s.ctx c).handle, v < s.params.nVectors ∧ s.phase = .populated

/-- Byte 4 of entry v is 0, and so is bit 4 of its byte 5, attr (42_gate_entry R175, 41_attribute R157). -/
abbrev State.EntryOk (s : State) (v : Nat) : Prop :=
  Memory.read s.mem (entryAddr s.params v + 4) = 0 ∧ attrBit4 (Memory.read s.mem (attrAddr s.params v)) = 0

/-- The write of byte 5 of some entry keeps every entry, if bit 4 of the new byte is 0. -/
theorem State.EntryOk.writeAttr {s : State} {v' : Nat} (h : s.EntryOk v') (hwf : Memory.wf s.mem) (v : Nat) {a : Byte}
    (ha : attrBit4 a = 0) : (s.writeTable (attrAddr s.params v) 1 a.toNat).EntryOk v' := by
  obtain ⟨h4, h5⟩ := h
  have hne : entryAddr s.params v' + 4 ≠ attrAddr s.params v := by
    simp only [attrAddr, entryAddr]
    omega
  rw [State.EntryOk, State.writeTable_mem, State.writeTable_params, Memory.read_writeAttr hwf, Memory.read_writeAttr hwf,
    if_neg hne]
  refine ⟨h4, ?_⟩
  split
  · exact ha
  · exact h5

/-- The write of the entry IDT_SET_HANDLER forms keeps every entry. -/
theorem State.EntryOk.writeEntry {s : State} {v' : Nat} (h : s.EntryOk v') (hwf : Memory.wf s.mem) (v : Nat) (addr : Addr) :
    (s.writeTable (entryAddr s.params v) 8 (handlerEntry s.params addr).toNat).EntryOk v' := by
  rw [State.EntryOk, attrAddr, State.writeTable_mem, State.writeTable_params,
    Memory.read_writeEntry hwf _ _ _ _ (show 4 < 8 by decide), Memory.read_writeEntry hwf _ _ _ _ (show 5 < 8 by decide)]
  split
  · have hr : gateByte (handlerEntry s.params addr) 4 = 0 := gateReserved_gateEncode _ _ _
    have ha : gateByte (handlerEntry s.params addr) 5 = attrDefault := gateAttr_gateEncode _ _ _
    rw [hr, ha]
    decide
  · exact h

/-- The clear of the table keeps every entry. -/
theorem State.EntryOk.clearTable {s : State} {v : Nat} (h : s.EntryOk v) : s.clearTable.EntryOk v := by
  obtain ⟨h4, h5⟩ := h
  rw [State.EntryOk, State.clearTable_mem, State.clearTable_params, Memory.read_clear, Memory.read_clear]
  constructor
  · split
    · rfl
    · exact h4
  · split
    · rfl
    · exact h5

/-- The same of the entry in GE[c]. -/
abbrev State.GeOk (s : State) (c : Nat) : Prop := ∀ e ∈ (s.ctx c).ge, gateReserved e = 0 ∧ attrBit4 (gateAttr e) = 0

/-- While the table is not loaded, IDTR holds nothing and IE is 0. -/
theorem State.idtrOk_iff_of_unloaded {s : State} (hp : s.phase ≠ .loaded) : s.IdtrOk ↔ s.idtr = none ∧ s.ie = false := by
  simp [State.IdtrOk, hp]

theorem pointerSize_pointerOf (p : Params) : pointerSize (pointerOf p) = BitVec.ofNat 16 (p.tableBytes - 1) :=
  BitVec.extractLsb'_append_eq_right

theorem pointerBase_pointerOf (p : Params) : pointerBase (pointerOf p) = p.tbase :=
  BitVec.extractLsb'_append_eq_left

section
variable {s t : State} {i : Instr}

theorem Effect.shapeOk (h : Effect s i t) (hs : s.ShapeOk) : t.ShapeOk := by
  rw [State.ShapeOk, h.ctxs_length, h.mutexes_length, h.params]
  exact hs

theorem Effect.memoryOk (h : Effect s i t) (hs : s.MemoryOk) : t.MemoryOk := by
  cases h with
  | wroteTableAttr _ v a _ _ _ ht => exact hs.writeTable ht a.toNat
  | wroteEntry v addr _ hv => exact hs.writeTable (inTable_entry hv) _
  | cleared => exact State.memoryOk_of_nil hs.clearTable_mem
  | _ => exact hs

theorem Effect.idtrOk (h : Effect s i t) (hs : s.IdtrOk) : t.IdtrOk := by
  cases h with
  | cleared hp =>
    rw [State.idtrOk_iff_of_unloaded hp] at hs
    exact (State.idtrOk_iff_of_unloaded (by simp)).2 hs
  | wroteEntry v addr hp =>
    rw [State.idtrOk_iff_of_unloaded hp] at hs
    exact (State.idtrOk_iff_of_unloaded (by simp)).2 hs
  | loaded => simp [State.IdtrOk, pointerSize_pointerOf, pointerBase_pointerOf]
  | _ => exact hs

theorem Effect.activeOk (h : Effect s i t) (hs : s.ActiveOk) : t.ActiveOk := by
  simpa only [State.ActiveOk, h.params, h.active, h.status] using hs

theorem Effect.handleOk (h : Effect s i t) {c : Nat} (hs : s.HandleOk c) : t.HandleOk c := by
  cases h with
  | cleared => simp [State.HandleOk]
  | loaded => simp [State.HandleOk]
  | wroteEntry v addr _ hv =>
    intro x hx
    simp only [State.handle_advance, State.handle_setHandle] at hx
    split at hx
    · cases hx
      exact ⟨hv, rfl⟩
    · exact ⟨(hs x hx).1, rfl⟩
  | _ => simpa [State.HandleOk] using hs

/-- The holder of a mutex stays a RUNNING context: the one that may take it is the executing one. -/
theorem Effect.guardOk (h : Effect s i t) {m : Nat} (hcur : s.cur < s.params.nCtx)
    (hrun : (s.ctx s.cur).status = .running) (hs : s.GuardOk m) : t.GuardOk m := by
  rw [State.GuardOk, h.params]
  obtain ⟨hf, hh⟩ | ⟨hf, hh⟩ | ⟨hf, hh⟩ := h.guard_cases m
  · rw [hf, hh]
    simpa only [h.status] using hs
  · simp [hf, hh]
  · simp [hf, hh, h.status, hcur, hrun]

/-- Every table entry stays as R157 and R175 say: a setter keeps bit 4, and a new entry is encoded with ATTR_DEFAULT. -/
theorem Effect.entryOk (h : Effect s i t) (hwf : Memory.wf s.mem) (hs : ∀ v < s.params.nVectors, s.EntryOk v)
    (hcur : s.HandleOk s.cur) : ∀ v < t.params.nVectors, t.EntryOk v := by
  rw [h.params]
  cases h with
  | wroteTableAttr _ v a _ hv _ _ hb =>
    have ha : attrBit4 a = 0 := hb.trans (hs v (hcur v hv).1).2
    exact fun v' hv' => (hs v' hv').writeAttr hwf v ha
  | wroteEntry v addr => exact fun v' hv' => (hs v' hv').writeEntry hwf v.toNat addr
  | cleared => exact fun v hv => (hs v hv).clearTable
  | _ => exact hs

theorem Effect.geOk (h : Effect s i t) {c : Nat} (hs : s.GeOk c) : t.GeOk c := by
  cases h with
  | wroteGe _ e _ hr hb =>
    intro x hx
    simp only [State.ge_advance, State.ge_setGe] at hx
    split at hx
    · cases hx
      exact ⟨hr, hb⟩
    · exact hs x hx
  | wroteGeAttr _ e a _ he hb =>
    intro x hx
    simp only [State.ge_advance, State.ge_setGe] at hx
    split at hx
    · rename_i hc
      obtain ⟨rfl, -⟩ := hc
      cases hx
      rw [gateReserved_gateWithAttr, gateAttr_gateWithAttr, hb]
      exact hs e he
    · exact hs x hx
  | _ => simpa [State.GeOk] using hs

/-- UNBUILT means that no byte is listed: IDT_NEW clears TR, and a setter of the table needs a handle, hence POPULATED. -/
theorem Effect.mem_of_unbuilt (h : Effect s i t) (hm : s.MemoryOk) (hcur : s.HandleOk s.cur)
    (hs : s.phase = .unbuilt → s.mem = []) : t.phase = .unbuilt → t.mem = [] := by
  cases h with
  | cleared => exact fun _ => hm.clearTable_mem
  | wroteTableAttr _ v _ _ hv =>
    intro hp
    cases (hcur v hv).2.symm.trans hp
  | wroteEntry => exact nofun
  | loaded => exact nofun
  | _ => exact hs

end

/-! ### The invariant inside a step -/

theorem State.ContextOk.handleOk {s : State} {c : Nat} (h : s.ContextOk c) : s.HandleOk c := by
  obtain ⟨-, -, -, -, hh⟩ := h
  exact hh

/-- What `ContextOk` reads of a state. -/
theorem State.ContextOk.congr {s t : State} {c : Nat} (h : s.ContextOk c) (hp : t.params = s.params)
    (hpc : (t.ctx c).pc = (s.ctx c).pc) (hst : (t.ctx c).status = (s.ctx c).status) (hh : t.HandleOk c) : t.ContextOk c := by
  obtain ⟨hle, hrun, hidle, hdone, -⟩ := h
  rw [State.ContextOk, hpc, hst, State.prog, hp]
  exact ⟨hle, hrun, hidle, hdone, hp ▸ hh⟩

/-- A RUNNING context is as `ContextOk` says when it has a command to fetch. -/
theorem State.contextOk_of_running {s : State} {c : Nat} (hst : (s.ctx c).status = .running)
    (hpc : (s.ctx c).pc < (s.prog c).length) (hh : s.HandleOk c) : s.ContextOk c := by
  rw [State.ContextOk, hst]
  exact ⟨hpc.le, fun _ => hpc, nofun, nofun, hh⟩

/-- The invariant inside a step of context c, before the test for the end of its list: c is RUNNING and on top of ACTIVE, and
PC[c] may have reached the end of the list. -/
structure State.MidStep (s : State) (c : Nat) : Prop where
  config : s.params.wf = true
  shape : s.ShapeOk
  memory : s.MemoryOk
  others : ∀ c' < s.params.nCtx, c' ≠ c → s.ContextOk c'
  inRange : c < s.params.nCtx
  running : (s.ctx c).status = .running
  pc_le : (s.ctx c).pc ≤ (s.prog c).length
  handle : s.HandleOk c
  guards : s.GuardsOk
  idtr : s.IdtrOk
  active : s.ActiveOk
  top : s.params.sched = .nested → s.active.getLast? = some c
  entries : s.EntriesOk

/-- A command keeps the invariant inside the step of its context. -/
theorem Effect.midStep {s t : State} {i : Instr} (h : Effect s i t) (hs : s.MidStep s.cur)
    (hpc : (s.ctx s.cur).pc < (s.prog s.cur).length) : t.MidStep s.cur := by
  have hlen : t.prog s.cur = s.prog s.cur := by rw [State.prog, State.prog, h.params]
  obtain ⟨hunb, hent, hge⟩ := hs.entries
  constructor
  case config => rw [h.params]; exact hs.config
  case shape => exact h.shapeOk hs.shape
  case memory => exact h.memoryOk hs.memory
  case others =>
    rw [h.params]
    intro c hc hne
    have hok := hs.others c hc hne
    have hpc' : (t.ctx c).pc = (s.ctx c).pc := by
      obtain e | ⟨-, e⟩ := h.ctx_other hne
      · rw [e]
      · rw [e]
    exact hok.congr h.params hpc' (h.status c) (h.handleOk hok.handleOk)
  case inRange => rw [h.params]; exact hs.inRange
  case running => rw [h.status]; exact hs.running
  case pc_le =>
    rw [hlen]
    obtain e | e := h.pc
    · omega
    · omega
  case handle => exact h.handleOk hs.handle
  case guards =>
    intro m hm
    rw [h.params] at hm
    exact h.guardOk hs.inRange hs.running (hs.guards m hm)
  case idtr => exact h.idtrOk hs.idtr
  case active => exact h.activeOk hs.active
  case top => rw [h.params, h.active]; exact hs.top
  case entries =>
    refine ⟨h.mem_of_unbuilt hs.memory hs.handle hunb, h.entryOk hs.memory.1 hent hs.handle, fun c hc => ?_⟩
    rw [h.params] at hc
    exact h.geOk (hge c hc)

/-! ### The end of a context -/

theorem State.status_endContext {s : State} {c : Nat} (hc : c < s.ctxs.length) : ((s.endContext c).ctx c).status ≠ .running := by
  rw [State.ctx_endContext, if_pos ⟨rfl, hc⟩, Ctx.ended]
  split <;> simp

theorem State.ctx_endContext_ne (s : State) {c c' : Nat} (h : c' ≠ c) : (s.endContext c).ctx c' = s.ctx c' := by
  rw [State.ctx_endContext, if_neg fun e => h e.1.symm]

@[simp] theorem State.ge_endContext (s : State) (c c' : Nat) : ((s.endContext c).ctx c').ge = (s.ctx c').ge := by
  rw [State.ctx_endContext, Ctx.ended]
  split
  · split <;> rfl
  · rfl

@[simp] theorem State.handle_endContext (s : State) (c c' : Nat) : ((s.endContext c).ctx c').handle = (s.ctx c').handle := by
  rw [State.ctx_endContext, Ctx.ended]
  split
  · split <;> rfl
  · rfl

section
variable {s : State} {c : Nat}

/-- A context that has ended stands where 10_state R23 leaves it: IDLE at command 0, or DONE at the end of its list. -/
theorem State.MidStep.contextOk_endContext (h : s.MidStep c) (hend : (s.ctx c).pc = (s.prog c).length) :
    (s.endContext c).ContextOk c := by
  have hlt : c < s.ctxs.length := h.shape.1 ▸ h.inRange
  have hh : (s.endContext c).HandleOk c := by simpa [State.HandleOk] using h.handle
  have hprog : (s.endContext c).prog c = s.prog c := by rw [State.prog, State.prog, State.endContext_params]
  rw [State.HandleOk, State.ctx_endContext, if_pos ⟨rfl, hlt⟩, State.endContext_params, Ctx.ended] at hh
  rw [State.ContextOk, State.ctx_endContext, if_pos ⟨rfl, hlt⟩, hprog, State.endContext_params, Ctx.ended]
  by_cases hc : s.params.sched = .nested ∧ c ≠ 0
  · rw [if_pos hc] at hh ⊢
    exact ⟨Nat.zero_le _, nofun, fun _ => ⟨rfl, hc⟩, nofun, hh⟩
  · rw [if_neg hc] at hh ⊢
    exact ⟨hend.le, nofun, nofun, fun _ => ⟨hend, fun hn => by_contra fun h0 => hc ⟨hn, h0⟩⟩, hh⟩

/-- No guard is held by a context that has ended (44_spinlock R227). -/
theorem State.MidStep.guardOk_endContext (h : s.MidStep c) {m : Nat} (hm : m < s.params.nMutex) :
    (s.endContext c).GuardOk m := by
  obtain ⟨hpair, hhold⟩ := h.guards m hm
  rw [State.GuardOk, State.mutex_endContext, State.endContext_params]
  split
  · simp [Mutex.released]
  · rename_i hne
    refine ⟨hpair, fun c' hc' => ?_⟩
    have hcc : c' ≠ c := fun e => hne (e ▸ hc')
    rw [State.ctx_endContext_ne s hcc]
    exact hhold c' hc'

/-- The pop of ACTIVE takes off the context that has ended, and no other (10_state R38, log 9). -/
theorem State.MidStep.activeOk_endContext (h : s.MidStep c) : (s.endContext c).ActiveOk := by
  obtain ⟨hi, hn⟩ := h.active
  rw [State.ActiveOk, State.endContext_active, State.endContext_params]
  refine ⟨fun hs => by simp [hs, hi hs], fun hs => ?_⟩
  obtain ⟨hnd, hlt, hrun, hbot⟩ := hn hs
  obtain ⟨below, hb⟩ := List.getLast?_eq_some_iff.1 (h.top hs)
  rw [hb] at hnd hlt hrun hbot
  obtain ⟨hnd', -, hnot⟩ := List.nodup_append.1 hnd
  rw [if_pos hs, hb, List.dropLast_concat]
  refine ⟨hnd', fun c' hc' => hlt c' (by simp [hc']), fun c' hc' => ?_, ?_⟩
  · by_cases hcc : c' = c
    · subst hcc
      have hin : c' ∉ below := fun hm => hnot c' hm c' (by simp) rfl
      have hst := State.status_endContext (s := s) (h.shape.1 ▸ hc')
      exact iff_of_false hin hst
    · rw [State.ctx_endContext_ne s hcc, ← hrun c' hc']
      simp [hcc]
  · cases below with
    | nil => exact .inl rfl
    | cons x xs => exact .inr (by simpa using hbot)

/-- The end of the context closes the step: the invariant of the block holds again. -/
theorem State.MidStep.inv_endContext (h : s.MidStep c) (hend : (s.ctx c).pc = (s.prog c).length) : (s.endContext c).Inv := by
  constructor
  case config => simpa using h.config
  case shape => simpa [State.ShapeOk] using h.shape
  case memory => simpa [State.MemoryOk] using h.memory
  case contexts =>
    intro c' hc'
    rw [State.endContext_params] at hc'
    by_cases hcc : c' = c
    · subst hcc
      exact h.contextOk_endContext hend
    · have hok := h.others c' hc' hcc
      have e := s.ctx_endContext_ne hcc
      exact hok.congr (s.endContext_params c) (by rw [e]) (by rw [e]) (by simpa [State.HandleOk] using hok.handleOk)
  case guards =>
    intro m hm
    rw [State.endContext_params] at hm
    exact h.guardOk_endContext hm
  case idtr => simpa [State.IdtrOk] using h.idtr
  case active => exact h.activeOk_endContext
  case entries => simpa [State.EntriesOk] using h.entries

/-- While the list has a command left, the invariant inside the step is the invariant. -/
theorem State.MidStep.inv_of_pc_ne (h : s.MidStep c) (hne : (s.ctx c).pc ≠ (s.prog c).length) : s.Inv where
  config := h.config
  shape := h.shape
  memory := h.memory
  contexts c' hc' := by
    by_cases hcc : c' = c
    · subst hcc
      exact State.contextOk_of_running h.running (lt_of_le_of_ne h.pc_le hne) h.handle
    · exact h.others c' hc' hcc
  guards := h.guards
  idtr := h.idtr
  active := h.active
  entries := h.entries

theorem State.MidStep.inv_endIfFinished (h : s.MidStep c) : (s.endIfFinished c).Inv := by
  by_cases hpc : (s.ctx c).pc = (s.prog c).length
  · rw [State.endIfFinished_eq_endContext hpc]
    exact h.inv_endContext hpc
  · rw [State.endIfFinished_eq_self hpc]
    exact h.inv_of_pc_ne hpc

end

/-! ### The invariant through a step -/

/-- The invariant does not read HIST, FAULT, REFUSED or the scheduler's state. -/
theorem State.Inv.congr {s t : State} (h : s.Inv)
    (ht : t = { s with fault := t.fault, refused := t.refused, hist := t.hist, cur := t.cur, plan := t.plan, tick := t.tick }) :
    t.Inv := by
  rw [ht]
  exact ⟨h.config, h.shape, h.memory, h.contexts, h.guards, h.idtr, h.active, h.entries⟩

theorem State.Inv.setIe {s : State} (h : s.Inv) (hp : s.phase = .loaded) (b : Bool) : (s.setIe b).Inv := by
  obtain ⟨hl, hu, -⟩ := h.idtr
  exact ⟨h.config, h.shape, h.memory, h.contexts, h.guards, ⟨hl, hu, fun _ => hp⟩, h.active, h.entries⟩

/-- A context that may step is one of the block's, RUNNING, and under NESTED the top of ACTIVE (70_reset R283). -/
theorem State.Inv.eligible_cases {s : State} (h : s.Inv) {c : Nat} (he : s.eligible c = true) :
    c < s.params.nCtx ∧ (s.ctx c).status = .running ∧ (s.params.sched = .nested → s.active.getLast? = some c) := by
  unfold State.eligible at he
  cases hs : s.params.sched with
  | interleaved =>
    simp only [hs, Bool.and_eq_true, decide_eq_true_eq] at he
    exact ⟨h.shape.1 ▸ he.1, he.2, nofun⟩
  | nested =>
    simp only [hs, Bool.and_eq_true, decide_eq_true_eq] at he
    obtain ⟨-, hlt, -, -⟩ := h.active.2 hs
    exact ⟨hlt c (List.mem_of_getLast? he.1), he.2, fun _ => he.1⟩

/-- A step of a context begins with the invariant inside the step. -/
theorem State.Inv.midStep {s : State} (h : s.Inv) {c : Nat} (he : s.eligible c = true) : (s.focus c).MidStep c := by
  obtain ⟨hc, hrun, htop⟩ := h.eligible_cases he
  obtain ⟨hle, -, -, -, hh⟩ := h.contexts c hc
  exact { config := h.config, shape := h.shape, memory := h.memory, others := fun c' hc' _ => h.contexts c' hc'
          inRange := hc, running := hrun, pc_le := hle, handle := hh, guards := h.guards, idtr := h.idtr
          active := h.active, top := htop, entries := h.entries }

/-- Under NESTED, ACTIVE is empty only when the run is over: context 0 is then DONE (70_reset R284). -/
theorem State.Inv.active_ne_nil {s : State} (h : s.Inv) (hn : s.params.sched = .nested) (hh : s.halted = false) :
    s.active ≠ [] := by
  intro hnil
  have hcfg := h.config
  simp only [Params.wf, Params.contextsOk, Bool.and_eq_true, decide_eq_true_eq] at hcfg
  have h0 : 0 < s.params.nCtx := by omega
  obtain ⟨-, -, hidle, -, -⟩ := h.contexts 0 h0
  obtain ⟨-, -, hrun, -⟩ := h.active.2 hn
  have hdone : (s.ctx 0).status = .done := by
    cases hst : (s.ctx 0).status with
    | running => simpa [hnil] using (hrun 0 h0).2 hst
    | idle => exact absurd rfl (hidle hst).2.2
    | done => rfl
  obtain ⟨hf, hr, hc⟩ := State.halted_eq_false_iff.1 hh
  simp [State.completed, hf, hr, hn, hdone, hnil] at hc

/-- VEC_CTX maps to context ids of the block (00_scope R7). -/
theorem Params.handlerOf_lt {p : Params} (hp : p.wf = true) {v h : Nat} (hv : p.handlerOf v = some h) : h < p.nCtx := by
  obtain ⟨l₁, l₂, hl, -⟩ := List.lookup_eq_some_iff.1 hv
  simp only [Params.wf, Params.vecCtxOk, Bool.and_eq_true, List.all_eq_true, decide_eq_true_eq] at hp
  obtain ⟨⟨-, -, hall⟩, -⟩ := hp
  exact (hall (v, h) (by simp [hl])).2

section
variable {s : State} {h : Nat}

theorem State.pushHandler_active (s : State) (h : Nat) : (s.pushHandler h).active = s.active ++ [h] := rfl

theorem State.ctx_pushHandler_ne (s : State) {c : Nat} (hc : c ≠ h) : (s.pushHandler h).ctx c = s.ctx c :=
  State.ctx_updCtx_ne _ _ hc

theorem State.ctx_pushHandler_self (hlt : h < s.ctxs.length) :
    (s.pushHandler h).ctx h = { s.ctx h with status := .running, pc := 0 } :=
  State.ctx_updCtx_self _ _ hlt

/-- A start pushes a context that was not on ACTIVE, on top of context 0 (10_state R38). -/
theorem State.Inv.activeOk_pushHandler (hs : s.Inv) (hlt : h < s.params.nCtx) (hn : s.params.sched = .nested)
    (hidle : (s.ctx h).status = .idle) (hne : s.active ≠ []) : (s.pushHandler h).ActiveOk := by
  obtain ⟨hnd, hin, hrun, hbot⟩ := hs.active.2 hn
  have hnew : h ∉ s.active := by simp [hrun h hlt, hidle]
  have hself := State.ctx_pushHandler_self (s := s) (hs.shape.1 ▸ hlt)
  refine ⟨fun hi => (by cases hn.symm.trans hi), fun _ => ⟨?_, ?_, fun c hc => ?_, .inr ?_⟩⟩
  · exact List.nodup_append.2 ⟨hnd, List.nodup_singleton h, fun a ha b hb e => hnew (List.mem_singleton.1 hb ▸ e ▸ ha)⟩
  · intro c hc
    obtain hc | hc := List.mem_append.1 hc
    · exact hin c hc
    · cases List.mem_singleton.1 hc
      exact hlt
  · rw [State.pushHandler_active]
    by_cases hch : c = h
    · subst hch
      simp [hself]
    · rw [State.ctx_pushHandler_ne s hch, ← hrun c hc]
      simp [hch]
  · rw [State.pushHandler_active, List.head?_append_of_ne_nil _ hne]
    exact hbot.resolve_left hne

/-- The start of an IDLE handler begins with the invariant inside the step of that handler (60_exceptions R257). -/
theorem State.Inv.midStep_pushHandler (hs : s.Inv) (hlt : h < s.params.nCtx) (hn : s.params.sched = .nested)
    (hidle : (s.ctx h).status = .idle) (hne : s.active ≠ []) : (s.pushHandler h).MidStep h := by
  have hself := State.ctx_pushHandler_self (s := s) (hs.shape.1 ▸ hlt)
  obtain ⟨-, -, -, -, hh⟩ := hs.contexts h hlt
  constructor
  case config => exact hs.config
  case shape => exact ⟨(State.ctxs_length_updCtx _ _ _).trans hs.shape.1, hs.shape.2⟩
  case memory => exact hs.memory
  case others =>
    intro c hc hch
    have e := State.ctx_pushHandler_ne s hch
    have hok := hs.contexts c hc
    exact hok.congr rfl (by rw [e]) (by rw [e]) (by rw [State.HandleOk, e]; exact hok.handleOk)
  case inRange => exact hlt
  case running => rw [hself]
  case pc_le => rw [hself]; exact Nat.zero_le _
  case handle => rw [State.HandleOk, hself]; exact hh
  case guards =>
    intro m hm
    obtain ⟨hpair, hhold⟩ := hs.guards m hm
    refine ⟨hpair, fun c hc => ?_⟩
    obtain ⟨hcn, hrun⟩ := hhold c hc
    have hch : c ≠ h := by
      rintro rfl
      cases hidle.symm.trans hrun
    rw [State.ctx_pushHandler_ne s hch]
    exact ⟨hcn, hrun⟩
  case idtr => exact hs.idtr
  case active => exact hs.activeOk_pushHandler hlt hn hidle hne
  case top => exact fun _ => List.getLast?_concat
  case entries =>
    obtain ⟨hunb, hent, hge⟩ := hs.entries
    refine ⟨hunb, hent, fun c hc => ?_⟩
    by_cases hch : c = h
    · subst hch
      rw [hself]
      exact hge c hc
    · rw [State.ctx_pushHandler_ne s hch]
      exact hge c hc

end

/-- Every possible step of a block that is not halted keeps the invariant. -/
theorem MoveEffect.inv {s t : State} {m : Move} (hm : MoveEffect s m t) (h : s.Inv) (hh : s.halted = false)
    (hp : s.possible m = true) : t.Inv := by
  cases hm with
  | illegal c w x => exact h.congr rfl
  | command c w i t hw hi he =>
    have hmid : t.MidStep c := (exec_effect he).midStep (h.midStep hp) (State.pc_lt_of_fetch hw)
    exact hmid.inv_endIfFinished
  | failed r sub => exact h.congr rfl
  | delivered r ev => exact h.congr rfl
  | started r ev k _ hn hk hi =>
    have hrec : (s.record ev).Inv := h.congr rfl
    have hne : (s.record ev).active ≠ [] := h.active_ne_nil hn hh
    exact (hrec.midStep_pushHandler (Params.handlerOf_lt h.config hk) hn hi hne).inv_endIfFinished
  | refused r ev => exact h.congr rfl
  | wroteIe b => exact h.setIe (by simpa [State.possible] using hp) b

end Sys2Proof.Machine

open Sys2Proof Sys2Proof.Machine

/-- Settles O50: a command keeps the invariant inside its step, and the test for the end of the list closes the step. -/
theorem stepKeepsInvariant : Obligations.StepKeepsInvariant := by
  unfold Obligations.StepKeepsInvariant
  intro s t hs hstep
  obtain ⟨m, hh, hp, hm⟩ := step_trans hstep
  have hc : s.consumeChoice.Inv := hs.congr rfl
  exact (takeMove_effect hm).inv hc hh hp

end

section
/-! Every step keeps memory in canonical form, from every state that has it (20_memory R60, R63). -/

namespace Sys2Proof.Machine

@[simp] theorem State.endIfFinished_mem (s : State) (c : Nat) : (s.endIfFinished c).mem = s.mem := by
  unfold State.endIfFinished
  split
  · exact s.endContext_mem c
  · rfl

/-- Three commands write memory: each by a write or a clear that keeps the canonical form, wherever the bytes lie. -/
theorem Effect.memoryWf {s t : State} {i : Instr} (h : Effect s i t) (hs : Memory.wf s.mem) : Memory.wf t.mem := by
  cases h with
  | wroteTableAttr => exact Memory.wf_writeLE hs _ _ _
  | wroteEntry => exact Memory.wf_writeLE hs _ _ _
  | cleared => exact Memory.wf_clear hs _ _
  | _ => exact hs

/-- Of the steps, only a command writes memory; the end of a context, a dispatch and a write of IE do not. -/
theorem MoveEffect.memoryWf {s t : State} {m : Move} (h : MoveEffect s m t) (hs : Memory.wf s.mem) : Memory.wf t.mem := by
  cases h with
  | command c w i t _ _ he =>
    rw [State.endIfFinished_mem]
    exact (exec_effect he).memoryWf hs
  | started r ev h =>
    rw [State.endIfFinished_mem]
    exact hs
  | _ => exact hs

end Sys2Proof.Machine

open Sys2Proof Sys2Proof.Machine

/-- Settles O47, by the effects of the step on memory. -/
theorem memoryCanonicalKept : Obligations.MemoryCanonicalKept := by
  unfold Obligations.MemoryCanonicalKept
  intro s t hs hstep
  obtain ⟨m, -, -, hm⟩ := step_trans hstep
  have hc : Memory.wf s.consumeChoice.mem := hs
  exact (takeMove_effect hm).memoryWf hc

end

section
/-! The command word (30_encoding R101 to R106): an operand placed in its field and read back, the word of a command, the decoder
against the encoder, and the legal words. -/

namespace Sys2Proof

/-! ### A value placed at bit k -/

/-- The word that holds x at bit k and is 0 elsewhere. -/
def fieldBits {n : Nat} (k : Nat) (x : BitVec n) : Word := x.setWidth 64 <<< k

/-- The n bits from bit k on. -/
def fieldMask (k n : Nat) : Word := fieldBits k (BitVec.allOnes n)

theorem getLsbD_fieldBits {n : Nat} (k : Nat) (x : BitVec n) (i : Nat) :
    (fieldBits k x).getLsbD i = (decide (i < 64) && decide (k ≤ i) && x.getLsbD (i - k)) := by
  rw [fieldBits, BitVec.getLsbD_shiftLeft, BitVec.getLsbD_setWidth]
  by_cases h : i < 64
  · by_cases hk : k ≤ i <;> simp [h, hk, show i - k < 64 by omega]
  · simp [h]

theorem extractLsb'_fieldBits_same {n k : Nat} (x : BitVec n) (h : k + n ≤ 64) : (fieldBits k x).extractLsb' k n = x := by
  apply BitVec.eq_of_getLsbD_eq
  intro i hi
  rw [BitVec.getLsbD_extractLsb', getLsbD_fieldBits]
  simp [hi, show k + i < 64 by omega]

theorem extractLsb'_fieldBits_disjoint {n k k' n' : Nat} (x : BitVec n) (h : k + n ≤ k' ∨ k' + n' ≤ k) :
    (fieldBits k x).extractLsb' k' n' = 0#n' := by
  rw [← BitVec.ofNat_eq_ofNat, extractLsb'_eq_zero_iff]
  intro i hi
  rw [getLsbD_fieldBits]
  obtain hlow | hhigh := h
  · simp [BitVec.getLsbD_of_ge x (k' + i - k) (by omega)]
  · simp [show ¬ k ≤ k' + i by omega]

theorem fieldBits_extractLsb' (w : Word) (k n : Nat) : fieldBits k (w.extractLsb' k n) = w &&& fieldMask k n := by
  apply BitVec.eq_of_getLsbD_eq
  intro i hi
  rw [fieldMask, BitVec.getLsbD_and, getLsbD_fieldBits, getLsbD_fieldBits, BitVec.getLsbD_extractLsb', BitVec.getLsbD_allOnes]
  by_cases hk : k ≤ i <;> simp [hk, hi, Bool.and_comm]

theorem fieldBits_and_eq_zero {n k : Nat} (x : BitVec n) {m : Word} (h : m.extractLsb' k n = 0) : fieldBits k x &&& m = 0 := by
  rw [extractLsb'_eq_zero_iff] at h
  apply BitVec.eq_of_getLsbD_eq
  intro i _
  rw [BitVec.getLsbD_and, getLsbD_fieldBits]
  by_cases hi : k ≤ i ∧ i - k < n
  · have := h (i - k) hi.2
    rw [Nat.add_sub_cancel' hi.1] at this
    simp [this]
  · by_cases hk : k ≤ i
    · simp [BitVec.getLsbD_of_ge x (i - k) (by omega)]
    · simp [hk]

/-! ### The fields of R102 -/

theorem immBits_eq {k : Nat} (x : BitVec k) : immBits x = fieldBits 0 x := (BitVec.shiftLeft_zero _).symm
theorem targetBits_eq (t : Target) : targetBits t = fieldBits 48 t.bit := rfl
theorem vectorBits_eq (v : BitVec 16) : vectorBits v = fieldBits 32 v := rfl
theorem mutexBits_eq (m : BitVec 8) : mutexBits m = fieldBits 48 m := rfl

/-- The target field read is t exactly when its bit is that of t. -/
theorem targetField_eq_iff (w : Word) (t : Target) : targetField w = t ↔ w.extractLsb' 48 1 = t.bit := by
  rw [targetField]
  generalize w.extractLsb' 48 1 = b
  revert b
  cases t <;> decide

theorem bit_targetField (w : Word) : (targetField w).bit = w.extractLsb' 48 1 := ((targetField_eq_iff w _).1 rfl).symm

/-- VALID_KINDS (30_encoding R92): a value is of at most one kind, and each kind has its own. -/
theorem GateKind.ofBits?_eq_some_iff (b : BitVec 4) (k : GateKind) : GateKind.ofBits? b = some k ↔ b = k.bits := by
  revert b
  cases k <;> decide

theorem GateKind.ofBits?_isSome_iff (b : BitVec 4) :
    (∃ k, GateKind.ofBits? b = some k) ↔ b ∈ [0x5#4, 0x6#4, 0x7#4, 0xE#4, 0xF#4] := by
  rw [← Option.isSome_iff_exists]
  revert b
  decide

@[simp] theorem immBits_immField (k : Nat) (w : Word) : immBits (immField k w) = w &&& fieldMask 0 k := by
  rw [immBits_eq, immField, fieldBits_extractLsb']

@[simp] theorem targetBits_targetField (w : Word) : targetBits (targetField w) = w &&& fieldMask 48 1 := by
  rw [targetBits_eq, bit_targetField, fieldBits_extractLsb']

@[simp] theorem vectorBits_vectorField (w : Word) : vectorBits (vectorField w) = w &&& fieldMask 32 16 := by
  rw [vectorBits_eq, vectorField, fieldBits_extractLsb']

@[simp] theorem mutexBits_mutexField (w : Word) : mutexBits (mutexField w) = w &&& fieldMask 48 8 := by
  rw [mutexBits_eq, mutexField, fieldBits_extractLsb']

/-! ### The word of a command -/

/-- The opcode stands in every row's mask, and no row's match value has a bit outside its mask (30_encoding R104). -/
theorem opcodeTable_masks :
    ∀ r ∈ opcodeTable, r.mask.extractLsb' 56 8 = BitVec.allOnes 8 ∧ r.pat &&& r.mask = r.pat := by decide

/-- A row's match value is its opcode and nothing below it (30_encoding R104). -/
theorem opcodeTable_pats : ∀ r ∈ opcodeTable, r.pat.extractLsb' 0 56 = 0 := by decide

/-- The 27 opcodes differ (30_encoding R104). -/
theorem opcodeTable_opcodes_nodup : (opcodeTable.map fun r => opcodeField r.pat).Nodup := by decide

theorem Instr.row_mem_opcodeTable (i : Instr) : i.row ∈ opcodeTable := by
  cases i <;> simp [Instr.row, opcodeTable]

theorem Row.selects_eq_true_iff {r : Row} {w : Word} : r.selects w = true ↔ w &&& r.mask = r.pat := decide_eq_true_iff

/-- A row selects only words of its opcode (30_encoding R104). -/
theorem opcodeField_of_selects {r : Row} {w : Word} (hr : r ∈ opcodeTable) (h : r.selects w = true) :
    opcodeField w = opcodeField r.pat := by
  obtain ⟨hmask, -⟩ := opcodeTable_masks r hr
  rw [opcodeField, opcodeField, ← Row.selects_eq_true_iff.1 h, BitVec.extractLsb'_and, hmask, BitVec.and_allOnes]

/-- The operands of a command lie outside its row's mask (30_encoding R103). -/
theorem Instr.operandBits_and_mask (i : Instr) : i.operandBits &&& i.row.mask = 0 := by
  cases i <;> simp (disch := decide) [Instr.operandBits, Instr.row, BitVec.and_or_distrib_right, immBits_eq, targetBits_eq,
    vectorBits_eq, mutexBits_eq, fieldBits_and_eq_zero]

/-- The row of a command selects its word. -/
theorem Instr.row_selects_encode (i : Instr) : i.row.selects (encode i) = true := by
  obtain ⟨-, hpat⟩ := opcodeTable_masks i.row i.row_mem_opcodeTable
  rw [Row.selects_eq_true_iff, encode, BitVec.and_or_distrib_right, i.operandBits_and_mask, hpat]
  exact BitVec.or_zero

theorem opcodeField_encode (i : Instr) : opcodeField (encode i) = opcodeField i.row.pat :=
  opcodeField_of_selects i.row_mem_opcodeTable i.row_selects_encode

/-- A word that the command's row selects is the command's, if the bits outside the row's mask are the operands. -/
theorem encode_eq_of_selects {i : Instr} {w : Word} (hs : i.row.selects w = true)
    (ho : i.operandBits = w &&& ~~~i.row.mask) : encode i = w := by
  have hw : w &&& i.row.mask = i.row.pat := Row.selects_eq_true_iff.1 hs
  calc encode i = (w &&& i.row.mask) ||| (w &&& ~~~i.row.mask) := by rw [encode, ho, hw]
    _ = w &&& (i.row.mask ||| ~~~i.row.mask) := BitVec.and_or_distrib_left.symm
    _ = w := by rw [BitVec.or_not_self, BitVec.and_allOnes]

/-! ### The decoder -/

theorem ifSelects_eq_ok_iff {r : Row} {w : Word} {k : Except Illegal Instr} {i : Instr} :
    ifSelects r w k = .ok i ↔ r.selects w = true ∧ k = .ok i := by
  unfold ifSelects
  split <;> simp [*]

theorem withMutexField_eq_ok_iff {n : Nat} {w : Word} {k : BitVec 8 → Instr} {i : Instr} :
    withMutexField n w k = .ok i ↔ (mutexField w).toNat < n ∧ k (mutexField w) = i := by
  unfold withMutexField
  split <;> simp [*]

theorem withKindField_eq_ok_iff {w : Word} {k : GateKind → Instr} {i : Instr} :
    withKindField w k = .ok i ↔ ∃ kind, GateKind.ofBits? (immField 4 w) = some kind ∧ k kind = i := by
  unfold withKindField
  split <;> simp [*]

/-- A word that decodes is selected by the row of its command, holds the operands outside the row's mask, and names a mutex
below N_MUTEX (30_encoding R104, R105). -/
theorem selects_of_decode {n : Nat} {w : Word} {i : Instr} (h : decode n w = .ok i) :
    i.row.selects w = true ∧ i.operandBits = w &&& ~~~i.row.mask ∧ i.wf n = true := by
  unfold decode at h
  -- The cases are those of `decode`, in the table's order: `h_9` is ATTR_SET_GATE_KIND, `h_22` to `h_27` name a mutex,
  -- `h_28` is an opcode of no row, and the list from `h_1` to `h_21` is the commands without an operand.
  split at h
  case h_28 => cases h
  all_goals obtain ⟨hs, hk⟩ := ifSelects_eq_ok_iff.1 h
  case h_9 =>
    obtain ⟨kind, hkind, rfl⟩ := withKindField_eq_ok_iff.1 hk
    have hb : immField 4 w = kind.bits := (GateKind.ofBits?_eq_some_iff _ _).1 hkind
    refine ⟨hs, ?_, rfl⟩
    simp only [Instr.operandBits, Instr.row, ← hb, targetBits_targetField, immBits_immField, ← BitVec.and_or_distrib_left]
    exact congrArg (w &&& ·) (by decide)
  case h_22 | h_23 | h_24 | h_25 | h_26 | h_27 =>
    obtain ⟨hm, rfl⟩ := withMutexField_eq_ok_iff.1 hk
    refine ⟨hs, ?_, decide_eq_true hm⟩
    simp only [Instr.operandBits, Instr.row, mutexBits_mutexField, immBits_immField, ← BitVec.and_or_distrib_left]
    exact congrArg (w &&& ·) (by decide)
  case h_1 | h_5 | h_6 | h_7 | h_15 | h_16 | h_17 | h_18 | h_19 | h_21 =>
    cases hk
    exact ⟨hs, BitVec.and_zero.symm, rfl⟩
  all_goals
    cases hk
    refine ⟨hs, ?_, rfl⟩
    simp only [Instr.operandBits, Instr.row, targetBits_targetField, vectorBits_vectorField, immBits_immField,
      ← BitVec.and_or_distrib_left]
    exact congrArg (w &&& ·) (by decide)

/-- Below the opcode, the fields of a command's word are those of its operands. -/
theorem Instr.extractLsb'_encode (i : Instr) {k n : Nat} (h : k + n ≤ 56) :
    (encode i).extractLsb' k n = i.operandBits.extractLsb' k n := by
  have hpat : i.row.pat.extractLsb' k n = 0 := by
    rw [extractLsb'_eq_zero_iff]
    intro j hj
    have hlow := (extractLsb'_eq_zero_iff _ _ _).1 (opcodeTable_pats i.row i.row_mem_opcodeTable) (k + j) (by omega)
    rwa [Nat.zero_add] at hlow
  rw [encode, BitVec.extractLsb'_or, hpat]
  exact BitVec.zero_or

/-- The word of a command that names a mutex holds its number (30_encoding R102). -/
theorem Instr.mutexField_encode {i : Instr} {m : BitVec 8} (h : i.mutex? = some m) : mutexField (encode i) = m := by
  rw [mutexField, i.extractLsb'_encode (by decide)]
  cases i <;> cases h <;> simp [Instr.operandBits, immBits_eq, mutexBits_eq, BitVec.extractLsb'_or,
    extractLsb'_fieldBits_same, extractLsb'_fieldBits_disjoint]

/-- The word of ATTR_SET_GATE_KIND holds its kind in W[3:0] (30_encoding R102). -/
theorem immField_encode_attrSetGateKind (t : Target) (k : GateKind) : immField 4 (encode (.attrSetGateKind t k)) = k.bits := by
  rw [immField, Instr.extractLsb'_encode _ (by decide)]
  simp [Instr.operandBits, immBits_eq, targetBits_eq, BitVec.extractLsb'_or, extractLsb'_fieldBits_same,
    extractLsb'_fieldBits_disjoint]

theorem Instr.wf_iff {n : Nat} {i : Instr} : i.wf n = true ↔ ∀ m, i.mutex? = some m → m.toNat < n := by
  unfold Instr.wf
  cases i.mutex? <;> simp

/-- Decoding the word of a well-formed command: its opcode picks its row, and each field is read where it was placed. -/
theorem decode_encode {n : Nat} {i : Instr} (h : i.wf n = true) : decode n (encode i) = .ok i := by
  have hs := i.row_selects_encode
  have hm : ∀ m, i.mutex? = some m → (mutexField (encode i)).toNat < n :=
    fun m him => i.mutexField_encode him ▸ Instr.wf_iff.1 h m him
  rw [decode, opcodeField_encode]
  cases i
  all_goals simp only [Instr.row]
  all_goals refine ifSelects_eq_ok_iff.2 ⟨hs, ?_⟩
  case' attrSetGateKind t k =>
    refine withKindField_eq_ok_iff.2 ⟨k, (GateKind.ofBits?_eq_some_iff _ _).2 (immField_encode_attrSetGateKind t k), ?_⟩
  case' mutexNew | mutexLock | mutexUnlock | mutexRead | mutexWrite | mutexWriteadd =>
    refine withMutexField_eq_ok_iff.2 ⟨hm _ rfl, ?_⟩
  all_goals simp (disch := decide) [immField, vectorField, mutexField, targetField_eq_iff, Instr.extractLsb'_encode,
    Instr.operandBits, immBits_eq, targetBits_eq, vectorBits_eq, mutexBits_eq, BitVec.extractLsb'_or,
    extractLsb'_fieldBits_same, extractLsb'_fieldBits_disjoint]

/-! ### The legal words (30_encoding R105) -/

/-- One command of each row of the opcode map, in the table's order. -/
def oneOfEachRow : List Instr :=
  [.selNew, .selSetRpl 0, .selSetTi 0, .selSetIndex 0, .selGetRpl, .selGetTi, .selGetIndex,
    .attrSetPresent .ge 0, .attrSetGateKind .ge .task32, .attrSetDpl .ge 0,
    .attrGetPresent .ge, .attrGetGateKind .ge, .attrGetDpl .ge,
    .gateNew 0, .gateMissing, .gateGetOffset, .gateGetSel, .gateGetAttr, .idtNew, .idtSetHandler 0 0, .idtLoad,
    .mutexNew 0 0, .mutexLock 0, .mutexUnlock 0, .mutexRead 0, .mutexWrite 0 0, .mutexWriteadd 0 0]

theorem opcodeTable_eq_map_row : opcodeTable = oneOfEachRow.map Instr.row := rfl

/-- The rows of the formats M and MD (30_encoding R102). -/
def mutexRows : List Row :=
  [Row.mutexNew, Row.mutexLock, Row.mutexUnlock, Row.mutexRead, Row.mutexWrite, Row.mutexWriteadd]

/-- Only ATTR_SET_GATE_KIND is of its row. -/
theorem Instr.eq_attrSetGateKind_of_row {i : Instr} (h : i.row = Row.attrSetGateKind) : ∃ t k, i = .attrSetGateKind t k := by
  cases i
  case attrSetGateKind t k => exact ⟨t, k, rfl⟩
  all_goals
    rw [Instr.row] at h
    exact absurd h (by decide)

/-- The commands of the formats M and MD name a mutex (30_encoding R102). -/
theorem Instr.exists_mutex_of_row {i : Instr} (h : i.row ∈ mutexRows) : ∃ m, i.mutex? = some m := by
  cases i
  case mutexNew | mutexLock | mutexUnlock | mutexRead | mutexWrite | mutexWriteadd => exact ⟨_, rfl⟩
  all_goals
    rw [Instr.row] at h
    exact absurd h (by decide)

/-- R105 refuses a word that a row selects for its kind or its mutex only. -/
theorem exists_decode_of_selects {n : Nat} {w : Word} {r : Row} (hr : r ∈ opcodeTable) (hs : r.selects w = true)
    (hkind : r = Row.attrSetGateKind → ∃ k, GateKind.ofBits? (immField 4 w) = some k)
    (hmutex : r ∈ mutexRows → (mutexField w).toNat < n) : ∃ i, decode n w = .ok i := by
  have hop := opcodeField_of_selects hr hs
  rw [opcodeTable_eq_map_row] at hr
  obtain ⟨i, -, rfl⟩ := List.mem_map.1 hr
  rw [decode, hop]
  cases i
  all_goals rw [Instr.row] at *
  case attrSetGateKind =>
    obtain ⟨k, hk⟩ := hkind rfl
    exact ⟨_, ifSelects_eq_ok_iff.2 ⟨hs, withKindField_eq_ok_iff.2 ⟨k, hk, rfl⟩⟩⟩
  case mutexNew | mutexLock | mutexUnlock | mutexRead | mutexWrite | mutexWriteadd =>
    exact ⟨_, ifSelects_eq_ok_iff.2 ⟨hs, withMutexField_eq_ok_iff.2 ⟨hmutex (by decide), rfl⟩⟩⟩
  all_goals exact ⟨_, ifSelects_eq_ok_iff.2 ⟨hs, rfl⟩⟩

/-- Two rows that select one word are one row: their opcodes are the word's (30_encoding R106). -/
theorem Row.eq_of_selects {w : Word} {r r' : Row} (hr : r ∈ opcodeTable) (hr' : r' ∈ opcodeTable) (h : r.selects w = true)
    (h' : r'.selects w = true) : r = r' :=
  List.inj_on_of_nodup_map opcodeTable_opcodes_nodup hr hr'
    ((opcodeField_of_selects hr h).symm.trans (opcodeField_of_selects hr' h'))

/-- A word that decodes is the word of its command (30_encoding R106). -/
theorem encode_of_decode {n : Nat} {w : Word} {i : Instr} (h : decode n w = .ok i) : encode i = w := by
  obtain ⟨hs, ho, -⟩ := selects_of_decode h
  exact encode_eq_of_selects hs ho

end Sys2Proof

open Sys2Proof

/-- Settles O2: the opcode of the word picks the command's row, and each field reads back the operand placed in it. -/
theorem decodeEncodeGivesTheCommand : Obligations.DecodeEncodeGivesTheCommand := by
  unfold Obligations.DecodeEncodeGivesTheCommand
  intro n i h
  exact decode_encode h

/-- Settles O3: outside its row's mask a word that decodes holds the operands of its command. -/
theorem encodeDecodeGivesTheWord : Obligations.EncodeDecodeGivesTheWord := by
  unfold Obligations.EncodeDecodeGivesTheWord
  intro n w i h
  obtain ⟨-, -, hwf⟩ := selects_of_decode h
  exact ⟨encode_of_decode h, hwf⟩

/-- Settles O4: a word that decodes is the word of its command, whose row, kind and mutex number meet R105; and a word that meets
R105 reaches the row's case of the decoder. Two rows that select one word have its opcode. -/
theorem legalWordsAreTheTableRows : Obligations.LegalWordsAreTheTableRows := by
  unfold Obligations.LegalWordsAreTheTableRows
  refine ⟨fun n w => ⟨?_, ?_⟩, fun w r hr r' hr' => Row.eq_of_selects hr hr'⟩
  · rintro ⟨i, hi⟩
    obtain ⟨hs, -, hwf⟩ := selects_of_decode hi
    obtain rfl := encode_of_decode hi
    refine ⟨i.row, i.row_mem_opcodeTable, Row.selects_eq_true_iff.1 hs, fun hk => ?_, fun hm => ?_⟩
    · obtain ⟨t, k, rfl⟩ := Instr.eq_attrSetGateKind_of_row hk
      exact (GateKind.ofBits?_isSome_iff _).1
        ⟨k, (GateKind.ofBits?_eq_some_iff _ _).2 (immField_encode_attrSetGateKind t k)⟩
    · obtain ⟨m, hm⟩ := Instr.exists_mutex_of_row hm
      have hfield : mutexField (encode i) = m := Instr.mutexField_encode hm
      rw [← hfield] at hm
      exact Instr.wf_iff.1 hwf _ hm
  · rintro ⟨r, hr, hs, hkind, hmutex⟩
    exact exists_decode_of_selects hr (Row.selects_eq_true_iff.2 hs)
      (fun h => (GateKind.ofBits?_isSome_iff _).2 (hkind h)) hmutex

end

section
/-! Gate entries in the table, and the commands that build one: the fields of an encoding (30_encoding R95), an entry read after a
write, and the setters of attr in the entry named by HANDLE[c] (41_attribute R151 to R153). -/

namespace Sys2Proof.Machine

/-! ### The fields of an encoding (30_encoding R95) -/

/-- The high half of the address stands above the attr byte. -/
theorem extractLsb'_high_gateEncode (x : Selector) (off : Addr) (a : Byte) :
    (gateEncode x off a).extractLsb' 48 16 = off.extractLsb' 16 16 := by
  simp only [gateEncode, BitVec.extractLsb'_append_eq_of_le, Nat.reduceLeDiff, Nat.reduceSub]
  exact BitVec.extractLsb'_eq_self

theorem extractLsb'_low_gateEncode (x : Selector) (off : Addr) (a : Byte) :
    (gateEncode x off a).extractLsb' 0 16 = off.extractLsb' 0 16 := BitVec.extractLsb'_append_eq_right

theorem gateOffset_gateEncode (x : Selector) (off : Addr) (a : Byte) : gateOffset (gateEncode x off a) = off := by
  rw [gateOffset, extractLsb'_high_gateEncode, extractLsb'_low_gateEncode]
  exact BitVec.extractLsb'_append_extractLsb'

theorem gateSel_gateEncode (x : Selector) (off : Addr) (a : Byte) : gateSel (gateEncode x off a) = x := by
  rw [gateSel, gateEncode, BitVec.extractLsb'_append_eq_of_le (by decide)]
  exact BitVec.extractLsb'_append_eq_right

/-- What stands below the attr byte: the reserved byte, the selector and the low half of the address. -/
theorem extractLsb'_below_attr (e : GateEntry) :
    e.extractLsb' 0 40 = gateReserved e ++ gateSel e ++ e.extractLsb' 0 16 := by
  have hmid : gateReserved e ++ gateSel e = e.extractLsb' 16 24 :=
    BitVec.extractLsb'_append_extractLsb'_eq_extractLsb' (by decide)
  rw [hmid]
  symm
  exact BitVec.extractLsb'_append_extractLsb'_eq_extractLsb' (by decide)

/-- Writing the attr byte an entry has changes nothing. -/
theorem gateWithAttr_gateAttr (e : GateEntry) : gateWithAttr e (gateAttr e) = e := by
  have hhigh : e.extractLsb' 48 16 ++ gateAttr e = e.extractLsb' 40 24 :=
    BitVec.extractLsb'_append_extractLsb'_eq_extractLsb' (by decide)
  rw [gateWithAttr, hhigh]
  exact BitVec.extractLsb'_append_extractLsb'

/-- Writing the attr byte of an encoding encodes the new byte: two encodings that differ in it agree elsewhere. -/
theorem gateWithAttr_gateEncode (x : Selector) (off : Addr) (a b : Byte) :
    gateWithAttr (gateEncode x off a) b = gateEncode x off b := by
  have hsame : gateWithAttr (gateEncode x off a) b = gateWithAttr (gateEncode x off b) b := by
    simp only [gateWithAttr, extractLsb'_below_attr, extractLsb'_high_gateEncode, extractLsb'_low_gateEncode,
      gateReserved_gateEncode, gateSel_gateEncode]
  calc gateWithAttr (gateEncode x off a) b = gateWithAttr (gateEncode x off b) (gateAttr (gateEncode x off b)) := by
        rw [hsame, gateAttr_gateEncode]
    _ = gateEncode x off b := gateWithAttr_gateAttr _

/-- The bits of an entry whose attr byte, bits [47:40], was written (41_attribute R150). -/
theorem getLsbD_gateWithAttr (e : GateEntry) (a : Byte) (i : Nat) :
    (gateWithAttr e a).getLsbD i = if 40 ≤ i ∧ i < 48 then a.getLsbD (i - 40) else e.getLsbD i := by
  simp only [gateWithAttr, BitVec.getLsbD_append, BitVec.getLsbD_extractLsb', Nat.zero_add]
  by_cases h40 : i < 40
  · simp [h40, Nat.not_le.2 h40]
  · by_cases h48 : i < 48
    · simp [h40, h48, Nat.not_lt.1 h40, show i - 40 < 8 by omega]
    · have hi : 48 + (i - 40 - 8) = i := by omega
      by_cases h64 : i < 64
      · simp [h40, h48, hi, show ¬ i - 40 < 8 by omega, show i - 40 - 8 < 16 by omega]
      · simp [h40, h48, hi, show ¬ i - 40 < 8 by omega, BitVec.getLsbD_of_ge e i (by omega)]

/-- A write of the attr byte, byte 5, leaves the other seven bytes (41_attribute R150). -/
theorem gateByte_gateWithAttr (e : GateEntry) (a : Byte) (k : Nat) :
    gateByte (gateWithAttr e a) k = if k = 5 then a else gateByte e k := by
  apply BitVec.eq_of_getLsbD_eq
  intro i hi
  by_cases hk : k = 5
  · rw [if_pos hk, gateByte, BitVec.getLsbD_extractLsb', getLsbD_gateWithAttr, if_pos (by omega)]
    simp [hi, hk]
  · rw [if_neg hk, gateByte, BitVec.getLsbD_extractLsb', getLsbD_gateWithAttr, if_neg (by omega), gateByte,
      BitVec.getLsbD_extractLsb']

/-! ### An entry in memory -/

theorem Memory.readEntry_writeEntry {m : Memory} (h : Memory.wf m) (a : Nat) (e : GateEntry) :
    Memory.readEntry (Memory.writeLE m a 8 e.toNat) a = e := by
  rw [Memory.readEntry, Memory.readLE_writeLE h, Nat.mod_eq_of_lt e.isLt, BitVec.ofNat_toNat, BitVec.setWidth_eq]

/-- An entry reads as e when its eight bytes are those of e (30_encoding R93, R94). -/
theorem Memory.readEntry_eq_of_bytes {m : Memory} {a : Nat} {e : GateEntry}
    (h : ∀ k < 8, Memory.read m (a + k) = gateByte e k) : Memory.readEntry m a = e := by
  have hcongr : Memory.readLE m a 8 = Memory.readLE (Memory.writeLE [] a 8 e.toNat) a 8 := by
    refine Memory.readLE_congr fun b hle hlt => ?_
    obtain ⟨k, rfl⟩ := Nat.exists_eq_add_of_le hle
    rw [h k (by omega), Memory.read_writeLE Memory.wf_nil, if_pos ⟨hle, hlt⟩, Nat.add_sub_cancel_left, ofNat_div_eq_gateByte]
  rw [Memory.readEntry, hcongr]
  exact Memory.readEntry_writeEntry Memory.wf_nil a e

/-! ### The entry named by HANDLE[c], while it is built -/

/-- The executing context holds a handle on entry v of the table, which is not loaded, and the entry is e: the state in which the
commands on attr with target tbl work on v (41_attribute R150). -/
structure EntryOpen (p : Params) (v : Nat) (e : GateEntry) (u : State) : Prop where
  params : u.params = p
  cur : u.curOk
  wf : Memory.wf u.mem
  phase : u.phase = .populated
  handle : u.me.handle = some v
  inRange : v < p.nVectors
  bytes : ∀ k < 8, Memory.read u.mem (entryAddr p v + k) = gateByte e k

theorem EntryOpen.readEntry {p : Params} {v : Nat} {e : GateEntry} {u : State} (h : EntryOpen p v e u) :
    Memory.readEntry u.mem (entryAddr p v) = e := Memory.readEntry_eq_of_bytes h.bytes

/-- The registers of the executing context after a command that wrote HANDLE[c]. -/
theorem State.me_setHandle_advance (s : State) (v : Nat) (h : s.curOk) :
    (s.setHandle v).advance.me = { s.me with handle := some v, pc := s.me.pc + 1 } := by
  rw [State.me_advance _ (by simpa [State.curOk] using h), State.me_setHandle _ _ h]

/-- IDT_SET_HANDLER opens its entry (43_idt R191). -/
theorem exec_idtSetHandler_entryOpen {s : State} {v : BitVec 16} (addr : Addr) (hc : s.curOk) (hwf : Memory.wf s.mem)
    (hp : s.phase ≠ .loaded) (hv : v.toNat < s.params.nVectors) :
    ∃ u, exec (.idtSetHandler v addr) s = .next u ∧ EntryOpen s.params v.toNat (handlerEntry s.params addr) u ∧
      u.me.pc = s.me.pc + 1 := by
  have hexec : exec (.idtSetHandler v addr) s =
      .next (((s.writeTable (entryAddr s.params v.toNat) 8 (handlerEntry s.params addr).toNat).setPhase .populated).setHandle
        v.toNat).advance := by
    simp [exec, execIdtSetHandler, needUnlocked, hp, hv]
  refine ⟨_, hexec, ⟨rfl, ?cur, Memory.wf_writeLE hwf _ _ _, rfl, ?handle, hv, fun k hk => ?bytes⟩, ?pc⟩
  case cur => simpa [State.curOk] using hc
  case handle => rw [State.me_setHandle_advance _ _ (by exact hc)]
  case bytes => exact (Memory.read_writeEntry hwf _ _ _ _ hk).trans (if_pos rfl)
  case pc =>
    rw [State.me_setHandle_advance _ _ (by exact hc)]
    rfl

/-- A setter of attr on an open entry writes the entry's attr byte (41_attribute R150 to R153). -/
theorem setAttrField_entryOpen {p : Params} {v : Nat} {e : GateEntry} {s : State} (h : EntryOpen p v e s) (f : Byte → Byte) :
    ∃ u, setAttrField .tbl f s = .next u ∧ EntryOpen p v (gateWithAttr e (f (gateAttr e))) u ∧ u.me.pc = s.me.pc + 1 := by
  obtain ⟨rfl, hc, hwf, hp, hh, hv, hb⟩ := h
  have ha : Memory.read s.mem (attrAddr s.params v) = gateAttr e := hb 5 (by decide)
  have ht : inTable s.params (attrAddr s.params v) 1 = true := by
    rw [inTable, Bool.and_eq_true, decide_eq_true_eq, decide_eq_true_eq, attrAddr, entryAddr, Params.tableBytes]
    omega
  have hexec : setAttrField .tbl f s = .next (s.writeTable (attrAddr s.params v) 1 (f (gateAttr e)).toNat).advance := by
    simp [setAttrField, attrRead, hp, hh, needInTable, ht, ha, State.attrWrite_tbl hh]
  have hme := State.me_advance (s.writeTable (attrAddr s.params v) 1 (f (gateAttr e)).toNat) hc
  refine ⟨_, hexec, ⟨rfl, ?cur, Memory.wf_writeLE hwf _ _ _, hp, ?handle, hv, fun k hk => ?bytes⟩, by rw [hme]; rfl⟩
  case cur => simpa [State.curOk] using hc
  case handle =>
    rw [hme]
    exact hh
  case bytes =>
    refine (Memory.read_writeAttr hwf _ _ _ _).trans ?_
    rw [gateByte_gateWithAttr, attrAddr]
    by_cases hk5 : k = 5
    · rw [if_pos hk5, if_pos (by rw [hk5])]
    · rw [if_neg hk5, if_neg (by omega), hb k hk]

/-! ### IDT_INSTALL (30_encoding R109) -/

theorem runAll_cons {i : Instr} {s t : State} (h : exec i s = .next t) (l : List Instr) : runAll (i :: l) s = runAll l t := by
  rw [runAll, h]

theorem fits_eq_some_iff {w n : Nat} {x : BitVec w} : fits w n = some x ↔ n < 2 ^ w ∧ BitVec.ofNat w n = x := by
  unfold fits
  split <;> simp [*]

/-- The commands of IDT_INSTALL (30_encoding R109). -/
theorem assemble_idtInstall {v addr dpl : Nat} {kind : GateKind} {l : List Instr}
    (h : assemble (.idtInstall v addr (.name kind) dpl) = some l) :
    v < 2 ^ 16 ∧ addr < 2 ^ 32 ∧ dpl < 2 ^ 2 ∧
    l = [.idtSetHandler (BitVec.ofNat 16 v) (BitVec.ofNat 32 addr), .attrSetGateKind .tbl kind,
      .attrSetDpl .tbl (BitVec.ofNat 2 dpl), .attrSetPresent .tbl 1] := by
  simp only [assemble] at h
  split at h
  · rename_i v' a' k' d' hv ha hk hd
    obtain ⟨hvlt, rfl⟩ := fits_eq_some_iff.1 hv
    obtain ⟨halt, rfl⟩ := fits_eq_some_iff.1 ha
    obtain ⟨hdlt, rfl⟩ := fits_eq_some_iff.1 hd
    cases hk
    cases h
    exact ⟨hvlt, halt, hdlt, rfl⟩
  · cases h

/-- The attr byte of an installed entry: P in bit 7, DPL in bits [6:5], KIND in bits [3:0] (30_encoding R91). -/
theorem attrByte_installed (kind : GateKind) {dpl : Nat} (hd : dpl < 4) :
    attrWithPresent (attrWithDpl (attrWithKind attrDefault kind) (BitVec.ofNat 2 dpl)) 1 =
      BitVec.ofNat 8 (0x80 + dpl * 0x20 + kind.bits.toNat) := by
  interval_cases dpl <;> cases kind <;> rfl

end Sys2Proof.Machine

open Sys2Proof Sys2Proof.Machine

/-- Settles O23, field by field. -/
theorem gateEncodeRoundTrip : Obligations.GateEncodeRoundTrip := by
  unfold Obligations.GateEncodeRoundTrip
  intro sel off attr
  exact ⟨gateOffset_gateEncode sel off attr, gateSel_gateEncode sel off attr, gateAttr_gateEncode sel off attr,
    gateReserved_gateEncode sel off attr⟩

/-- Settles O32: IDT_SET_HANDLER opens the entry, and the three setters write its attr byte one field each. -/
theorem installBuildsAPresentEntry : Obligations.InstallBuildsAPresentEntry := by
  unfold Obligations.InstallBuildsAPresentEntry
  intro s v addr kind dpl l hc hwf hp hv hl
  obtain ⟨hv16, -, hd, rfl⟩ := assemble_idtInstall hl
  have hvn : (BitVec.ofNat 16 v).toNat = v := by simpa using hv16
  obtain ⟨s1, h1, ho, hpc1⟩ := exec_idtSetHandler_entryOpen (BitVec.ofNat 32 addr) hc hwf hp (hvn.symm ▸ hv)
  obtain ⟨s2, h2, ho, hpc2⟩ := setAttrField_entryOpen ho fun a => attrWithKind a kind
  obtain ⟨s3, h3, ho, hpc3⟩ := setAttrField_entryOpen ho fun a => attrWithDpl a (BitVec.ofNat 2 dpl)
  obtain ⟨s4, h4, ho, hpc4⟩ := setAttrField_entryOpen ho fun a => attrWithPresent a 1
  simp only [handlerEntry, gateWithAttr_gateEncode, gateAttr_gateEncode, attrByte_installed kind hd, hvn] at ho
  refine ⟨s4, ?_, ho.readEntry, ho.phase, by omega⟩
  rw [runAll_cons h1, runAll_cons (i := .attrSetGateKind .tbl kind) h2, runAll_cons (i := .attrSetDpl .tbl _) h3,
    runAll_cons (i := .attrSetPresent .tbl 1) h4, runAll]

/-- Settles O1: each word is decoded. -/
theorem specWordsDecode : Obligations.SpecWordsDecode := by
  unfold Obligations.SpecWordsDecode
  decide

/-- Settles O6: the decoder refuses the word before any command is executed, and the record is that of the focused context. -/
theorem illegalWordRaisesIllegal : Obligations.IllegalWordRaisesIllegal := by
  unfold Obligations.IllegalWordRaisesIllegal
  intro s c w x hw hx
  have hrun : runContext c s = raising (s.focus c) .illegal 0 := by simp [runContext, hw, hx]
  have hword : (s.focus c).fetch c = some w := hw
  rw [takeMove, hrun, raising, State.raise, State.focus_cur, hword]
  rfl

end

section
/-! The selector commands (40_selector R130 to R136): the word rule of a row that reserves the bits above its operand, the frame of
a command that writes a register of its own context, the fields of a selector (30_encoding R90), and its round trip. -/

namespace Sys2Proof

/-- A row whose must-be-zero bits reach from bit lo to the opcode selects a word of its opcode exactly when that field is zero
(30_encoding R103, R104). -/
theorem Row.selects_eq_field_zero {r : Row} {op lo n : Nat} {w : Word} (h : opcodeField w = op) (hlo : lo + n = 56)
    (hmask : ∀ i < 64, r.mask.getLsbD i = (decide (56 ≤ i) || decide (lo ≤ i)))
    (hpat : ∀ i < 64, r.pat.getLsbD i = (decide (56 ≤ i) && (BitVec.ofNat 8 op).getLsbD (i - 56))) :
    r.selects w = (w.extractLsb' lo n == 0) := by
  rw [Bool.eq_iff_iff, selects_iff h (fun i => decide (lo ≤ i)) hmask hpat, beq_iff_eq, extractLsb'_eq_zero_iff]
  constructor
  · intro hz i hi
    exact hz (lo + i) (by omega) (decide_eq_true (by omega))
  · intro hz i hi hle
    have hle : lo ≤ i := of_decide_eq_true hle
    have hbit := hz (i - lo) (by omega)
    rwa [Nat.add_sub_cancel' hle] at hbit

namespace Machine

/-- The word rule of such a row. The hypotheses are closed facts of each row, so they are decided where the lemma is used. -/
theorem wordRule_of_row (r : Row) {op lo n : Nat} {i : Word → Instr}
    (hdecode : ∀ m w, opcodeField w = op → decode m w = ifSelects r w (.ok (i w)) := by intro m w h; rw [decode, h]; rfl)
    (hlo : lo + n = 56 := by decide)
    (hmask : ∀ i < 64, r.mask.getLsbD i = (decide (56 ≤ i) || decide (lo ≤ i)) := by decide)
    (hpat : ∀ i < 64, r.pat.getLsbD i = (decide (56 ≤ i) && (BitVec.ofNat 8 op).getLsbD (i - 56)) := by decide) :
    WordRule op (fun w => w.extractLsb' lo n == 0) i := by
  intro m w h
  rw [hdecode m w h, ifSelects, Row.selects_eq_field_zero h hlo hmask hpat]

/-! ### A command that writes registers of its own context -/

theorem State.onlyOwnRegisters_updMe (s : State) (f : Ctx → Ctx) : OnlyOwnRegisters s (s.updMe f) where
  block := by constructor <;> rfl
  memory _ := rfl
  mutexes := ⟨rfl, fun _ => rfl⟩
  others := ⟨s.ctxs_length_updMe f, fun _ h => s.ctx_updMe_ne f h⟩
  hist := rfl

/-- A write of a register other than PC[c], and the advance of PC[c]. -/
theorem State.writesOwn_updMe_advance {s : State} (hc : s.curOk) {f : Ctx → Ctx} (hpc : (f s.me).pc = s.me.pc) :
    WritesOwn s (s.updMe f).advance (f s.me) := by
  have hme : (s.updMe f).advance.me = { f s.me with pc := s.me.pc + 1 } := by
    rw [State.me_advance _ (by simpa [State.curOk] using hc), State.me_updMe s f hc, hpc]
  have hone : (s.updMe f).advance = s.updMe ((fun k => { k with pc := k.pc + 1 }) ∘ f) := s.updCtx_updCtx s.cur f _
  exact ⟨hme, hone ▸ s.onlyOwnRegisters_updMe _⟩

theorem WritesOwn.curOk {s t : State} {k : Ctx} (h : WritesOwn s t k) (hc : s.curOk) : t.curOk := by
  obtain ⟨-, hown⟩ := h
  obtain ⟨hlen, -⟩ := hown.others
  rwa [State.curOk, hlen, hown.block.cur]

/-! ### SEL[c] read, or UNINIT (10_state R24) -/

theorem needSel_of_some {s : State} {x : Selector} (h : s.me.sel = some x) (k : Selector → Result) : needSel s k = k x := by
  rw [needSel, h]

/-- A command that reads SEL[c] first raises UNINIT when it is ⊥. -/
theorem raises_uninit_of_needSel {i : Instr} {s : State} {k : Selector → Result} (hi : exec i s = needSel s k)
    (h : s.me.sel = none) : Raises i s .uninit 0 :=
  ⟨s.raise .uninit 0, by rw [hi, needSel, h, raising], rfl⟩

theorem setSelField_writesOwn {s : State} {x : Selector} (hc : s.curOk) (hx : s.me.sel = some x) (f : Selector → Selector) :
    ∃ t, setSelField f s = .next t ∧ WritesOwn s t { s.me with sel := some (f x) } :=
  ⟨_, needSel_of_some hx _, State.writesOwn_updMe_advance hc rfl⟩

theorem getSelField_writesOwn {s : State} {x : Selector} (hc : s.curOk) (hx : s.me.sel = some x) (f : Selector → Payload) :
    ∃ t, getSelField f s = .next t ∧ WritesOwn s t { s.me with res := some (f x) } :=
  ⟨_, needSel_of_some hx _, State.writesOwn_updMe_advance hc rfl⟩

/-- An extraction from SEL[c], read in RES[c]. -/
theorem getSelField_res {s : State} {x : Selector} {f : Selector → Payload} {y : Payload} (hc : s.curOk)
    (hx : s.me.sel = some x) (hy : f x = y) : ∃ t, getSelField f s = .next t ∧ t.me.res = some y := by
  obtain ⟨t, ht, hme, -⟩ := getSelField_writesOwn hc hx f
  exact ⟨t, ht, by rw [hme, hy]⟩

theorem execSelNew_writesOwn {s : State} (hc : s.curOk) :
    ∃ t, exec .selNew s = .next t ∧ WritesOwn s t { s.me with sel := some 0x0000 } :=
  ⟨_, rfl, State.writesOwn_updMe_advance hc rfl⟩

/-! ### The fields of a selector (30_encoding R90) -/

/-- INDEX ++ TI ++ RPL (30_encoding R90). -/
def selEncode (index : BitVec 13) (ti : BitVec 1) (rpl : BitVec 2) : Selector := index ++ ti ++ rpl

theorem getLsbD_selEncode (i : BitVec 13) (t : BitVec 1) (p : BitVec 2) (k : Nat) :
    (selEncode i t p).getLsbD k =
      if k < 2 then p.getLsbD k else if k - 2 < 1 then t.getLsbD (k - 2) else i.getLsbD (k - 2 - 1) := by
  rw [selEncode, BitVec.getLsbD_append, BitVec.getLsbD_append]

@[simp] theorem selRpl_selEncode (i : BitVec 13) (t : BitVec 1) (p : BitVec 2) : selRpl (selEncode i t p) = p :=
  BitVec.extractLsb'_append_eq_right

@[simp] theorem selTi_selEncode (i : BitVec 13) (t : BitVec 1) (p : BitVec 2) : selTi (selEncode i t p) = t := by
  rw [selTi, selEncode, BitVec.extractLsb'_append_eq_of_le (by decide)]
  exact BitVec.extractLsb'_append_eq_right

@[simp] theorem selIndex_selEncode (i : BitVec 13) (t : BitVec 1) (p : BitVec 2) : selIndex (selEncode i t p) = i := by
  rw [selIndex, selEncode, BitVec.extractLsb'_append_eq_of_le (by decide)]
  exact BitVec.extractLsb'_append_eq_left

/-- The pseudocode of SEL_SET_RPL writes RPL and keeps the two others (40_selector R131). -/
theorem selWithRpl_eq (x : Selector) (p : BitVec 2) : selWithRpl x p = selEncode (selIndex x) (selTi x) p := by
  apply BitVec.eq_of_getLsbD_eq
  intro k hk
  rw [getLsbD_selEncode]
  interval_cases k <;> simp [selWithRpl, selIndex, selTi]

/-- The pseudocode of SEL_SET_TI writes TI and keeps the two others (40_selector R132). -/
theorem selWithTi_eq (x : Selector) (t : BitVec 1) : selWithTi x t = selEncode (selIndex x) t (selRpl x) := by
  apply BitVec.eq_of_getLsbD_eq
  intro k hk
  rw [getLsbD_selEncode]
  interval_cases k <;> simp [selWithTi, selIndex, selRpl]

/-- The pseudocode of SEL_SET_INDEX writes INDEX and keeps the two others (40_selector R133). -/
theorem selWithIndex_eq (x : Selector) (i : BitVec 13) : selWithIndex x i = selEncode i (selTi x) (selRpl x) := by
  apply BitVec.eq_of_getLsbD_eq
  intro k hk
  rw [getLsbD_selEncode]
  interval_cases k <;> simp [selWithIndex, selTi, selRpl]

theorem toNat_selRpl (x : Selector) : (selRpl x).toNat = x.toNat % 4 := by
  simp [selRpl, BitVec.extractLsb'_toNat]

theorem toNat_selTi (x : Selector) : (selTi x).toNat = x.toNat / 4 % 2 := by
  simp [selTi, BitVec.extractLsb'_toNat, Nat.shiftRight_eq_div_pow]

theorem toNat_selIndex (x : Selector) : (selIndex x).toNat = x.toNat / 8 := by
  rw [selIndex, BitVec.extractLsb'_toNat, Nat.shiftRight_eq_div_pow]
  omega

/-- The value of a selector (30_encoding R90). -/
theorem toNat_eq_fields (x : Selector) : x.toNat = (selIndex x).toNat * 8 + (selTi x).toNat * 4 + (selRpl x).toNat := by
  rw [toNat_selIndex, toNat_selTi, toNat_selRpl]
  omega

/-! ### The setters one after another, in any order (40_selector R138) -/

/-- What a setter of SEL[c] does to the selector (40_selector R131 to R133). -/
def selWrite : Selector → Instr → Selector
  | x, .selSetRpl p => selWithRpl x p
  | x, .selSetTi t => selWithTi x t
  | x, .selSetIndex i => selWithIndex x i
  | x, _ => x

/-- Commands that set fields of SEL[c] leave it with their writes applied in order. -/
theorem runAll_selWrites (l : List Instr) (hl : ∀ i ∈ l, ∀ s, exec i s = setSelField (fun x => selWrite x i) s) {s : State}
    {x : Selector} (hc : s.curOk) (hx : s.me.sel = some x) :
    ∃ u, runAll l s = .next u ∧ u.curOk ∧ u.me.sel = some (l.foldl selWrite x) := by
  induction l generalizing s x with
  | nil => exact ⟨s, rfl, hc, hx⟩
  | cons i l ih =>
    obtain ⟨hi, hl⟩ := List.forall_mem_cons.1 hl
    obtain ⟨t, ht, hown⟩ := setSelField_writesOwn hc hx fun x => selWrite x i
    have htx : t.me.sel = some (selWrite x i) := by rw [hown.1]
    rw [runAll_cons ((hi s).trans ht)]
    exact ih hl (hown.curOk hc) htx

variable (p : BitVec 2) (t : BitVec 1) (i : BitVec 13)

/-- The three setters, in the order of 40_selector R131 to R133. -/
def selSetters : List Instr := [.selSetRpl p, .selSetTi t, .selSetIndex i]

theorem exec_of_mem_selSetters : ∀ c ∈ selSetters p t i, ∀ s, exec c s = setSelField (fun x => selWrite x c) s := by
  simp only [selSetters, List.forall_mem_cons]
  exact ⟨fun _ => rfl, fun _ => rfl, fun _ => rfl, fun _ h => absurd h List.not_mem_nil⟩

/-- The setters write different fields, so two of them commute. -/
theorem selWrite_comm : ∀ c ∈ selSetters p t i, ∀ d ∈ selSetters p t i, ∀ x,
    selWrite (selWrite x c) d = selWrite (selWrite x d) c := by
  simp [selSetters, selWrite, selWithRpl_eq, selWithTi_eq, selWithIndex_eq]

theorem foldl_selWrite_of_perm {l : List Instr} (h : l.Perm (selSetters p t i)) (x : Selector) :
    l.foldl selWrite x = selEncode i t p := by
  calc l.foldl selWrite x = (selSetters p t i).foldl selWrite x :=
        (h.symm.foldl_eq' (selWrite_comm p t i) x).symm
    _ = selEncode i t p := by simp [selSetters, selWrite, selWithRpl_eq, selWithTi_eq, selWithIndex_eq]

end Machine
end Sys2Proof

open Sys2Proof Sys2Proof.Machine

/-- Settles O12: SEL_NEW reads no register, and its row reserves every bit below the opcode. -/
theorem selNewStartsASelector : Obligations.SelNewStartsASelector := by
  unfold Obligations.SelNewStartsASelector
  exact ⟨wordRule_of_row Row.selNew, fun _ hc => execSelNew_writesOwn hc⟩

/-- Settles O13: each setter's pseudocode is the encoding of the three fields with its own replaced. -/
theorem selSettersWriteTheirField : Obligations.SelSettersWriteTheirField := by
  unfold Obligations.SelSettersWriteTheirField
  refine ⟨?rplWord, ?tiWord, ?indexWord, ?writes, ?uninit⟩
  case rplWord => exact wordRule_of_row Row.selSetRpl
  case tiWord => exact wordRule_of_row Row.selSetTi
  case indexWord => exact wordRule_of_row Row.selSetIndex
  case writes =>
    intro s hc x hx
    refine ⟨fun p => ?_, fun t => ?_, fun i => ?_⟩
    · obtain ⟨u, hu, hown⟩ := setSelField_writesOwn hc hx fun x => selWithRpl x p
      exact ⟨u, hu, _, hown, rfl, by simp [selWithRpl_eq]⟩
    · obtain ⟨u, hu, hown⟩ := setSelField_writesOwn hc hx fun x => selWithTi x t
      exact ⟨u, hu, _, hown, rfl, by simp [selWithTi_eq]⟩
    · obtain ⟨u, hu, hown⟩ := setSelField_writesOwn hc hx fun x => selWithIndex x i
      exact ⟨u, hu, _, hown, rfl, by simp [selWithIndex_eq]⟩
  case uninit =>
    intro s hs
    exact ⟨fun _ => raises_uninit_of_needSel rfl hs, fun _ => raises_uninit_of_needSel rfl hs,
      fun _ => raises_uninit_of_needSel rfl hs⟩

/-- Settles O14: the field a getter extracts is that of the selector's value, divided as R90 places the fields. -/
theorem selGettersExtractFields : Obligations.SelGettersExtractFields := by
  unfold Obligations.SelGettersExtractFields
  refine ⟨?rplWord, ?tiWord, ?indexWord, ?reads, ?uninit⟩
  case rplWord => exact wordRule_of_row Row.selGetRpl
  case tiWord => exact wordRule_of_row Row.selGetTi
  case indexWord => exact wordRule_of_row Row.selGetIndex
  case reads =>
    intro s hc x hx
    rw [← toNat_selRpl, ← toNat_selTi, ← toNat_selIndex]
    simp only [BitVec.ofNat_toNat]
    exact ⟨getSelField_writesOwn hc hx _, getSelField_writesOwn hc hx _, getSelField_writesOwn hc hx _⟩
  case uninit =>
    intro s hs
    exact ⟨raises_uninit_of_needSel rfl hs, raises_uninit_of_needSel rfl hs, raises_uninit_of_needSel rfl hs⟩

/-- Settles O15: the setters commute, so their order does not matter, and the selector they leave is the encoding of their
operands. -/
theorem selectorRoundTrip : Obligations.SelectorRoundTrip := by
  unfold Obligations.SelectorRoundTrip
  refine ⟨fun s p t i l hc hl => ?_, toNat_eq_fields, fun x y hi ht hp => ?_⟩
  · obtain ⟨s', hnew, hown⟩ := execSelNew_writesOwn hc
    have hsel : s'.me.sel = some 0x0000 := by rw [hown.1]
    obtain ⟨u, hrun, huc, hux⟩ := runAll_selWrites l (fun c hcl => exec_of_mem_selSetters p t i c (hl.mem_iff.1 hcl))
      (hown.curOk hc) hsel
    rw [foldl_selWrite_of_perm p t i hl] at hux
    refine ⟨u, selEncode i t p, (runAll_cons hnew l).trans hrun, hux, ?value, ?rpl, ?ti, ?index⟩
    case value => simpa using toNat_eq_fields (selEncode i t p)
    case rpl => exact getSelField_res huc hux (congrArg (BitVec.setWidth 32) (selRpl_selEncode i t p))
    case ti => exact getSelField_res huc hux (congrArg (BitVec.setWidth 32) (selTi_selEncode i t p))
    case index => exact getSelField_res huc hux (congrArg (BitVec.setWidth 32) (selIndex_selEncode i t p))
  · apply BitVec.eq_of_toNat_eq
    rw [toNat_eq_fields x, toNat_eq_fields y, hi, ht, hp]

end

section
/-! The commands on the attr byte (41_attribute R150 to R158): the word rule of a row with a target, the fields of an attr byte
(30_encoding R91), `attr_read` and `attr_write` on either target, and the round trip. -/

namespace Sys2Proof

/-- A row that reserves the bits between the opcode and the target and the bits from lo up to the target selects a word of its
opcode exactly when both fields are zero (30_encoding R103, R104). -/
theorem Row.selects_eq_fields_zero_of_target {r : Row} {op lo n : Nat} {w : Word} (h : opcodeField w = op) (hlo : lo + n = 48)
    (hmask : ∀ i < 64, r.mask.getLsbD i = (decide (56 ≤ i) || decide (lo ≤ i ∧ i ≠ 48)))
    (hpat : ∀ i < 64, r.pat.getLsbD i = (decide (56 ≤ i) && (BitVec.ofNat 8 op).getLsbD (i - 56))) :
    r.selects w = (w.extractLsb' 49 7 == 0 && w.extractLsb' lo n == 0) := by
  rw [Bool.eq_iff_iff, selects_iff h (fun i => decide (lo ≤ i ∧ i ≠ 48)) hmask hpat, Bool.and_eq_true,
    beq_iff_eq, beq_iff_eq, extractLsb'_eq_zero_iff, extractLsb'_eq_zero_iff]
  constructor
  · intro hz
    exact ⟨fun i hi => hz (49 + i) (by omega) (decide_eq_true (by omega)),
      fun i hi => hz (lo + i) (by omega) (decide_eq_true (by omega))⟩
  · rintro ⟨hhigh, hlow⟩ i hi hz
    obtain ⟨hle, hne⟩ := of_decide_eq_true hz
    by_cases h48 : i < 48
    · simpa [Nat.add_sub_cancel' hle] using hlow (i - lo) (by omega)
    · have h49 : 49 ≤ i := by omega
      simpa [Nat.add_sub_cancel' h49] using hhigh (i - 49) (by omega)

namespace Machine

/-- The word rule of such a row. The hypotheses are closed facts of each row, so they are decided where the lemma is used. -/
theorem wordRule_of_targetRow (r : Row) {op lo n : Nat} {i : Word → Instr}
    (hdecode : ∀ m w, opcodeField w = op → decode m w = ifSelects r w (.ok (i w)) := by intro m w h; rw [decode, h]; rfl)
    (hlo : lo + n = 48 := by decide)
    (hmask : ∀ i < 64, r.mask.getLsbD i = (decide (56 ≤ i) || decide (lo ≤ i ∧ i ≠ 48)) := by decide)
    (hpat : ∀ i < 64, r.pat.getLsbD i = (decide (56 ≤ i) && (BitVec.ofNat 8 op).getLsbD (i - 56)) := by decide) :
    WordRule op (fun w => w.extractLsb' 49 7 == 0 && w.extractLsb' lo n == 0) i := by
  intro m w h
  rw [hdecode m w h, ifSelects, Row.selects_eq_fields_zero_of_target h hlo hmask hpat]

/-- The words of ATTR_SET_GATE_KIND: the reserved fields are zero and the kind is valid (30_encoding R105). -/
theorem decode_attrSetGateKind_iff {n : Nat} {w : Word} (h : opcodeField w = 0x21) (i : Instr) :
    decode n w = .ok i ↔ w.extractLsb' 49 7 = 0 ∧ w.extractLsb' 4 44 = 0 ∧
      ∃ kind : GateKind, w.extractLsb' 0 4 = kind.bits ∧ i = .attrSetGateKind (targetField w) kind := by
  have hdecode : decode n w = ifSelects Row.attrSetGateKind w (withKindField w (.attrSetGateKind (targetField w))) := by
    rw [decode, h]
    rfl
  rw [hdecode, ifSelects_eq_ok_iff, withKindField_eq_ok_iff,
    Row.selects_eq_fields_zero_of_target (lo := 4) (n := 44) h (by decide) (by decide) (by decide)]
  simp only [Bool.and_eq_true, beq_iff_eq, GateKind.ofBits?_eq_some_iff, immField, and_assoc, eq_comm (a := i)]

/-! ### The fields of an attr byte (30_encoding R91) -/

/-- P ++ DPL ++ bit 4 ++ KIND (30_encoding R91). -/
def attrEncode (p : BitVec 1) (d : BitVec 2) (b : BitVec 1) (k : BitVec 4) : Byte := p ++ d ++ b ++ k

section
variable (p : BitVec 1) (d : BitVec 2) (b : BitVec 1) (k : BitVec 4)

theorem getLsbD_attrEncode (i : Nat) :
    (attrEncode p d b k).getLsbD i =
      if i < 4 then k.getLsbD i else if i - 4 < 1 then b.getLsbD (i - 4)
      else if i - 4 - 1 < 2 then d.getLsbD (i - 4 - 1) else p.getLsbD (i - 4 - 1 - 2) := by
  rw [attrEncode, BitVec.getLsbD_append, BitVec.getLsbD_append, BitVec.getLsbD_append]

@[simp] theorem attrKind_attrEncode : attrKind (attrEncode p d b k) = k := BitVec.extractLsb'_append_eq_right

@[simp] theorem attrBit4_attrEncode : attrBit4 (attrEncode p d b k) = b := by
  rw [attrBit4, attrEncode, BitVec.extractLsb'_append_eq_of_le (by decide)]
  exact BitVec.extractLsb'_append_eq_right

@[simp] theorem attrDpl_attrEncode : attrDpl (attrEncode p d b k) = d := by
  rw [attrDpl, attrEncode, BitVec.extractLsb'_append_eq_of_le (by decide), BitVec.extractLsb'_append_eq_of_le (by decide)]
  exact BitVec.extractLsb'_append_eq_right

@[simp] theorem attrPresent_attrEncode : attrPresent (attrEncode p d b k) = p := by
  rw [attrPresent, attrEncode, BitVec.extractLsb'_append_eq_of_le (by decide),
    BitVec.extractLsb'_append_eq_of_le (by decide)]
  exact BitVec.extractLsb'_append_eq_left

end

/-- The pseudocode of ATTR_SET_PRESENT writes P and keeps the rest (41_attribute R151). -/
theorem attrWithPresent_eq (a : Byte) (p : BitVec 1) :
    attrWithPresent a p = attrEncode p (attrDpl a) (attrBit4 a) (attrKind a) := by
  apply BitVec.eq_of_getLsbD_eq
  intro i hi
  rw [getLsbD_attrEncode]
  interval_cases i <;> simp [attrWithPresent, attrDpl, attrBit4, attrKind]

/-- The pseudocode of ATTR_SET_GATE_KIND writes KIND and keeps the rest (41_attribute R152). -/
theorem attrWithKind_eq (a : Byte) (kind : GateKind) :
    attrWithKind a kind = attrEncode (attrPresent a) (attrDpl a) (attrBit4 a) kind.bits := by
  apply BitVec.eq_of_getLsbD_eq
  intro i hi
  rw [getLsbD_attrEncode]
  interval_cases i <;> simp [attrWithKind, attrPresent, attrDpl, attrBit4]

/-- The pseudocode of ATTR_SET_DPL writes DPL and keeps the rest (41_attribute R153). -/
theorem attrWithDpl_eq (a : Byte) (d : BitVec 2) :
    attrWithDpl a d = attrEncode (attrPresent a) d (attrBit4 a) (attrKind a) := by
  apply BitVec.eq_of_getLsbD_eq
  intro i hi
  rw [getLsbD_attrEncode]
  interval_cases i <;> simp [attrWithDpl, attrPresent, attrBit4, attrKind]

theorem toNat_attrPresent (a : Byte) : (attrPresent a).toNat = a.toNat / 128 := by
  rw [attrPresent, BitVec.extractLsb'_toNat, Nat.shiftRight_eq_div_pow]
  omega

theorem toNat_attrDpl (a : Byte) : (attrDpl a).toNat = a.toNat / 32 % 4 := by
  simp [attrDpl, BitVec.extractLsb'_toNat, Nat.shiftRight_eq_div_pow]

theorem toNat_attrBit4 (a : Byte) : (attrBit4 a).toNat = a.toNat / 16 % 2 := by
  simp [attrBit4, BitVec.extractLsb'_toNat, Nat.shiftRight_eq_div_pow]

theorem toNat_attrKind (a : Byte) : (attrKind a).toNat = a.toNat % 16 := by
  simp [attrKind, BitVec.extractLsb'_toNat]

/-- The value of an attr byte (30_encoding R91). -/
theorem toNat_eq_attrFields (a : Byte) :
    a.toNat = (attrPresent a).toNat * 0x80 + (attrDpl a).toNat * 0x20 + (attrBit4 a).toNat * 0x10 + (attrKind a).toNat := by
  rw [toNat_attrPresent, toNat_attrDpl, toNat_attrBit4, toNat_attrKind]
  omega

/-! ### `attr_read` (41_attribute R150) -/

theorem inTable_attr {p : Params} {v : Nat} (h : v < p.nVectors) : inTable p (attrAddr p v) 1 = true := by
  rw [inTable, Bool.and_eq_true, decide_eq_true_eq, decide_eq_true_eq, attrAddr, entryAddr, Params.tableBytes]
  omega

section
variable {s : State} (set : Bool) (k : Byte → Result)

/-- A target byte that can be read is read, by a setter only while the table is not loaded. -/
theorem attrRead_of_attrHolds {t : Target} {a : Byte} (h : AttrHolds s t a)
    (hp : set = true → t = .tbl → s.phase ≠ .loaded) : attrRead s t set k = k a := by
  cases t with
  | ge =>
    obtain ⟨e, he, rfl⟩ := h
    rw [attrRead, needGe, he]
  | tbl =>
    obtain ⟨v, hv, hlt, rfl⟩ := h
    have hopen : (set && decide (s.phase = .loaded)) = false := by simpa using fun hset => hp hset rfl
    simp [attrRead, hopen, hv, needInTable, inTable_attr hlt]

theorem attrRead_ge_of_none (h : s.me.ge = none) : attrRead s .ge set k = raising s .uninit 0 := by
  rw [attrRead, needGe, h]

theorem attrRead_tbl_of_loaded (h : s.phase = .loaded) : attrRead s .tbl true k = raising s .tableLocked 0 := by
  simp [attrRead, h]

theorem attrRead_tbl_of_none (hp : set = true → s.phase ≠ .loaded) (h : s.me.handle = none) :
    attrRead s .tbl set k = raising s .noHandle 0 := by
  have hopen : (set && decide (s.phase = .loaded)) = false := by simpa using hp
  simp [attrRead, hopen, h]

end

section
variable {s : State} {t : Target} {code : FaultCode} {info : BitVec 32}

/-- Where `attr_read` raises a fault, so do the three setters (41_attribute R151 to R153). -/
theorem attrSetters_raise (h : ∀ k, attrRead s t true k = raising s code info) :
    (∀ p, Raises (.attrSetPresent t p) s code info) ∧ (∀ kind, Raises (.attrSetGateKind t kind) s code info) ∧
    (∀ d, Raises (.attrSetDpl t d) s code info) := by
  have hset (f : Byte → Byte) : setAttrField t f s = .next (s.raise code info) := h _
  exact ⟨fun p => ⟨_, hset fun a => attrWithPresent a p, rfl⟩, fun kind => ⟨_, hset fun a => attrWithKind a kind, rfl⟩,
    fun d => ⟨_, hset fun a => attrWithDpl a d, rfl⟩⟩

/-- Where `attr_read` raises a fault, so do the three getters (41_attribute R154 to R156). -/
theorem attrGetters_raise (h : ∀ k, attrRead s t false k = raising s code info) :
    Raises (.attrGetPresent t) s code info ∧ Raises (.attrGetGateKind t) s code info ∧
    Raises (.attrGetDpl t) s code info := by
  have hget (f : Byte → Payload) : getAttrField t f s = .next (s.raise code info) := h _
  exact ⟨⟨_, hget fun a => (attrPresent a).setWidth 32, rfl⟩, ⟨_, hget fun a => (attrKind a).setWidth 32, rfl⟩,
    ⟨_, hget fun a => (attrDpl a).setWidth 32, rfl⟩⟩

end

/-- An extraction from the target byte writes RES[c] (41_attribute R154 to R156). -/
theorem getAttrField_writesOwn {s : State} {t : Target} {a : Byte} (hc : s.curOk) (h : AttrHolds s t a) (f : Byte → Payload) :
    ∃ u, getAttrField t f s = .next u ∧ WritesOwn s u { s.me with res := some (f a) } :=
  ⟨_, attrRead_of_attrHolds false _ h nofun, State.writesOwn_updMe_advance hc rfl⟩

/-- An extraction from the target byte, read in RES[c]. -/
theorem getAttrField_res {s : State} {t : Target} {a : Byte} {f : Byte → Payload} {y : Payload} (hc : s.curOk)
    (h : AttrHolds s t a) (hy : f a = y) : ∃ u, getAttrField t f s = .next u ∧ u.me.res = some y := by
  obtain ⟨u, hu, hme, -⟩ := getAttrField_writesOwn hc h f
  exact ⟨u, hu, by rw [hme, hy]⟩

/-! ### A setter of the target byte (41_attribute R151 to R153) -/

/-- The state in which a setter of target t completes: the target byte can be read, and holds a, and the table is not loaded if
it is the target (41_attribute R150). -/
structure AttrWritable (s : State) (t : Target) (a : Byte) : Prop where
  cur : s.curOk
  wf : Memory.wf s.mem
  holds : AttrHolds s t a
  unlocked : t = .tbl → s.phase ≠ .loaded

/-- The fields of an entry outside its attr byte, bits [47:40], when that byte is written (41_attribute R150). -/
theorem extractLsb'_gateWithAttr_disjoint (e : GateEntry) (a : Byte) {k n : Nat} (h : k + n ≤ 40 ∨ 48 ≤ k) :
    (gateWithAttr e a).extractLsb' k n = e.extractLsb' k n := by
  apply BitVec.eq_of_getLsbD_eq
  intro i hi
  rw [BitVec.getLsbD_extractLsb', BitVec.getLsbD_extractLsb', getLsbD_gateWithAttr, if_neg (by omega)]

theorem gateOffset_gateWithAttr (e : GateEntry) (a : Byte) : gateOffset (gateWithAttr e a) = gateOffset e := by
  rw [gateOffset, extractLsb'_gateWithAttr_disjoint e a (by decide), extractLsb'_gateWithAttr_disjoint e a (by decide),
    gateOffset]

theorem gateSel_gateWithAttr (e : GateEntry) (a : Byte) : gateSel (gateWithAttr e a) = gateSel e :=
  extractLsb'_gateWithAttr_disjoint e a (by decide)

/-- `attr_write` with t = 0 keeps the other fields of GE[c] (41_attribute R150). -/
theorem attrWritten_ge {s : State} {e : GateEntry} (hc : s.curOk) (he : s.me.ge = some e) (b : Byte) :
    AttrWritten s (s.attrWrite .ge b).advance .ge b := by
  rw [State.attrWrite_ge he]
  exact ⟨e, gateWithAttr e b, he, State.writesOwn_updMe_advance hc rfl, gateAttr_gateWithAttr e b,
    gateOffset_gateWithAttr e b, gateSel_gateWithAttr e b, gateReserved_gateWithAttr e b⟩

/-- `attr_write` with t = 1 writes one byte of TR (41_attribute R150). -/
theorem attrWritten_tbl {s : State} {v : Nat} (hc : s.curOk) (hwf : Memory.wf s.mem) (hv : s.me.handle = some v) (b : Byte) :
    AttrWritten s (s.attrWrite .tbl b).advance .tbl b := by
  rw [State.attrWrite_tbl hv]
  refine ⟨v, hv, State.me_advance _ hc, ?byte, fun a ha => ?otherBytes, ?block, ?mutexes, ?others, rfl⟩
  case byte => exact (Memory.read_writeAttr hwf s.params v b _).trans (if_pos rfl)
  case otherBytes => exact (Memory.read_writeAttr hwf s.params v b a).trans (if_neg ha)
  case block => constructor <;> rfl
  case mutexes => exact ⟨rfl, fun _ => rfl⟩
  case others => exact ⟨State.ctxs_length_advance _, fun _ hne => State.ctx_advance_ne _ hne⟩

/-- A setter of the target byte completes, and writes the byte f makes of it. -/
theorem setAttrField_attrWritten {s : State} {t : Target} {a : Byte} (h : AttrWritable s t a) (f : Byte → Byte) :
    ∃ u, setAttrField t f s = .next u ∧ AttrWritten s u t (f a) := by
  refine ⟨_, attrRead_of_attrHolds true _ h.holds fun _ => h.unlocked, ?_⟩
  cases t with
  | ge =>
    obtain ⟨e, he, -⟩ := h.holds
    exact attrWritten_ge h.cur he (f a)
  | tbl =>
    obtain ⟨v, hv, -⟩ := h.holds
    exact attrWritten_tbl h.cur h.wf hv (f a)

section
variable {s u : State} {t : Target} {a b : Byte}

theorem AttrWritten.sameBlock (h : AttrWritten s u t b) : SameBlock s u := by
  cases t with
  | ge =>
    obtain ⟨_, _, -, ⟨-, hown⟩, -⟩ := h
    exact hown.block
  | tbl =>
    obtain ⟨_, -, -, -, -, hblock, -⟩ := h
    exact hblock

theorem AttrWritten.curOk (h : AttrWritten s u t b) (hc : s.curOk) : u.curOk := by
  have hlen : u.ctxs.length = s.ctxs.length := by
    cases t with
    | ge =>
      obtain ⟨_, _, -, ⟨-, hown⟩, -⟩ := h
      exact hown.others.1
    | tbl =>
      obtain ⟨_, -, -, -, -, -, -, ⟨hlen, -⟩, -⟩ := h
      exact hlen
  rwa [State.curOk, hlen, h.sameBlock.cur]

/-- After a completed setter the target byte can still be read, and holds what was written. -/
theorem AttrWritten.attrHolds (h : AttrWritten s u t b) (ha : AttrHolds s t a) : AttrHolds u t b := by
  cases t with
  | ge =>
    obtain ⟨_, e', -, ⟨hme, -⟩, hb, -⟩ := h
    exact ⟨e', by rw [hme], hb⟩
  | tbl =>
    obtain ⟨v, hv, hme, hb, -, hblock, -⟩ := h
    obtain ⟨v', hv', hlt, -⟩ := ha
    obtain rfl : v = v' := Option.some.inj (hv.symm.trans hv')
    rw [← hblock.params] at hlt hb
    exact ⟨v, by rw [hme, hv], hlt, hb⟩

end

/-! ### The setters one after another, in any order (41_attribute R158) -/

/-- What a setter does to the attr byte (41_attribute R151 to R153). -/
def attrUpdate : Byte → Instr → Byte
  | a, .attrSetPresent _ p => attrWithPresent a p
  | a, .attrSetGateKind _ k => attrWithKind a k
  | a, .attrSetDpl _ d => attrWithDpl a d
  | a, _ => a

/-- Setters of the target byte leave it with their updates applied in order. -/
theorem runAll_attrUpdates {t : Target} (l : List Instr)
    (hl : ∀ i ∈ l, ∀ s, exec i s = setAttrField t (fun a => attrUpdate a i) s) {s : State} {a : Byte}
    (h : AttrWritable s t a) : ∃ u, runAll l s = .next u ∧ AttrWritable u t (l.foldl attrUpdate a) := by
  induction l generalizing s a with
  | nil => exact ⟨s, rfl, h⟩
  | cons i l ih =>
    obtain ⟨hi, hl⟩ := List.forall_mem_cons.1 hl
    obtain ⟨s', hset, hw⟩ := setAttrField_attrWritten h fun a => attrUpdate a i
    have hexec : exec i s = .next s' := (hi s).trans hset
    have hnext : AttrWritable s' t (attrUpdate a i) :=
      { cur := hw.curOk h.cur
        wf := (exec_effect hexec).memoryWf h.wf
        holds := hw.attrHolds h.holds
        unlocked := fun ht => hw.sameBlock.phase ▸ h.unlocked ht }
    rw [runAll_cons hexec]
    exact ih hl hnext

section
variable (t : Target) (k : GateKind) (d : BitVec 2) (p : BitVec 1)

/-- The three setters, in the order of 41_attribute R158. -/
def attrSetters : List Instr := [.attrSetGateKind t k, .attrSetDpl t d, .attrSetPresent t p]

theorem exec_of_mem_attrSetters :
    ∀ c ∈ attrSetters t k d p, ∀ s, exec c s = setAttrField t (fun a => attrUpdate a c) s := by
  simp only [attrSetters, List.forall_mem_cons]
  exact ⟨fun _ => rfl, fun _ => rfl, fun _ => rfl, fun _ h => absurd h List.not_mem_nil⟩

/-- The setters write different fields, so two of them commute. -/
theorem attrUpdate_comm : ∀ c ∈ attrSetters t k d p, ∀ c' ∈ attrSetters t k d p, ∀ a,
    attrUpdate (attrUpdate a c) c' = attrUpdate (attrUpdate a c') c := by
  simp [attrSetters, attrUpdate, attrWithPresent_eq, attrWithKind_eq, attrWithDpl_eq]

theorem foldl_attrUpdate_of_perm {l : List Instr} (h : l.Perm (attrSetters t k d p)) (a : Byte) :
    l.foldl attrUpdate a = attrEncode p d (attrBit4 a) k.bits := by
  calc l.foldl attrUpdate a = (attrSetters t k d p).foldl attrUpdate a :=
        (h.symm.foldl_eq' (attrUpdate_comm t k d p) a).symm
    _ = attrEncode p d (attrBit4 a) k.bits := by
        simp [attrSetters, attrUpdate, attrWithPresent_eq, attrWithKind_eq, attrWithDpl_eq]

end

end Machine
end Sys2Proof

open Sys2Proof Sys2Proof.Machine

/-- Settles O16: each setter's pseudocode is the byte of the four fields with its own replaced, on either target. -/
theorem attrSettersWriteTheirField : Obligations.AttrSettersWriteTheirField := by
  unfold Obligations.AttrSettersWriteTheirField
  refine ⟨?presentWord, ?kindWord, ?dplWord, ?writes⟩
  case presentWord => exact wordRule_of_targetRow Row.attrSetPresent
  case kindWord => exact fun n w h i => decode_attrSetGateKind_iff h i
  case dplWord => exact wordRule_of_targetRow Row.attrSetDpl
  case writes =>
    intro s t a hc hwf ha hp
    refine ⟨fun p => ?_, fun kind => ?_, fun dpl => ?_⟩
    · obtain ⟨u, hu, hw⟩ := setAttrField_attrWritten ⟨hc, hwf, ha, hp⟩ fun a => attrWithPresent a p
      exact ⟨u, hu, _, hw, rfl, by simp [attrWithPresent_eq]⟩
    · obtain ⟨u, hu, hw⟩ := setAttrField_attrWritten ⟨hc, hwf, ha, hp⟩ fun a => attrWithKind a kind
      exact ⟨u, hu, _, hw, rfl, by simp [attrWithKind_eq]⟩
    · obtain ⟨u, hu, hw⟩ := setAttrField_attrWritten ⟨hc, hwf, ha, hp⟩ fun a => attrWithDpl a dpl
      exact ⟨u, hu, _, hw, rfl, by simp [attrWithDpl_eq]⟩

/-- Settles O17: the field a getter extracts is that of the byte's value, divided as R91 places the fields. -/
theorem attrGettersExtractFields : Obligations.AttrGettersExtractFields := by
  unfold Obligations.AttrGettersExtractFields
  refine ⟨?presentWord, ?kindWord, ?dplWord, ?reads⟩
  case presentWord => exact wordRule_of_targetRow Row.attrGetPresent
  case kindWord => exact wordRule_of_targetRow Row.attrGetGateKind
  case dplWord => exact wordRule_of_targetRow Row.attrGetDpl
  case reads =>
    intro s t a hc ha
    rw [← toNat_attrPresent, ← toNat_attrKind, ← toNat_attrDpl]
    simp only [BitVec.ofNat_toNat]
    exact ⟨getAttrField_writesOwn hc ha fun a => (attrPresent a).setWidth 32,
      getAttrField_writesOwn hc ha fun a => (attrKind a).setWidth 32,
      getAttrField_writesOwn hc ha fun a => (attrDpl a).setWidth 32⟩

/-- Settles O18: every command on the attr byte begins with `attr_read`, which raises the fault; a getter reads without the test of
PHASE. -/
theorem attrFaultsInOrder : Obligations.AttrFaultsInOrder := by
  unfold Obligations.AttrFaultsInOrder
  intro s
  refine ⟨fun hge => ?uninit, fun hp => ?locked, fun hp hh => ?setterHandle, fun hh => ?getterHandle⟩
  case uninit =>
    obtain ⟨hpresent, hkind, hdpl⟩ := attrSetters_raise fun k => attrRead_ge_of_none true k hge
    exact ⟨hpresent, hkind, hdpl, attrGetters_raise fun k => attrRead_ge_of_none false k hge⟩
  case locked => exact attrSetters_raise fun k => attrRead_tbl_of_loaded k hp
  case setterHandle => exact attrSetters_raise fun k => attrRead_tbl_of_none true k (fun _ => hp) hh
  case getterHandle => exact attrGetters_raise fun k => attrRead_tbl_of_none false k nofun hh

/-- Settles O19: the setters commute, so their order does not matter, and the byte they leave is that of their operands, with
bit 4 as it was. -/
theorem attributeRoundTrip : Obligations.AttributeRoundTrip := by
  unfold Obligations.AttributeRoundTrip
  intro s t a k d p l hc hwf ha hbit hp hl
  obtain ⟨u, hrun, huc, -, hu, -⟩ :=
    runAll_attrUpdates l (fun c hcl => exec_of_mem_attrSetters t k d p c (hl.mem_iff.1 hcl)) ⟨hc, hwf, ha, hp⟩
  rw [foldl_attrUpdate_of_perm t k d p hl, hbit] at hu
  refine ⟨u, attrEncode p d 0 k.bits, hrun, hu, ?value, ?present, ?dpl, ?kind⟩
  case value => simpa using toNat_eq_attrFields (attrEncode p d 0 k.bits)
  case present => exact getAttrField_res (f := fun a => (attrPresent a).setWidth 32) huc hu (by simp)
  case dpl => exact getAttrField_res (f := fun a => (attrDpl a).setWidth 32) huc hu (by simp)
  case kind => exact getAttrField_res (f := fun a => (attrKind a).setWidth 32) huc hu (by simp)

end

section
/-! The commands on GE[c] (42_gate_entry R170 to R175): the fields of an entry as numbers, GE[c] read or UNINIT, the bytes of an
entry in memory order (30_encoding R93), and the setters of its attr byte one after another. -/

namespace Sys2Proof.Machine

/-! ### The fields of an entry as numbers (30_encoding R95) -/

theorem toNat_gateOffset (e : GateEntry) : (gateOffset e).toNat = e.toNat / 2 ^ 48 * 2 ^ 16 + e.toNat % 2 ^ 16 := by
  rw [gateOffset, BitVec.toNat_append, BitVec.extractLsb'_toNat, BitVec.extractLsb'_toNat, Nat.shiftRight_eq_div_pow,
    Nat.shiftRight_zero, Nat.mod_eq_of_lt (by omega),
    ← Nat.shiftLeft_add_eq_or_of_lt (Nat.mod_lt _ (Nat.two_pow_pos 16)), Nat.shiftLeft_eq]

theorem toNat_gateSel (e : GateEntry) : (gateSel e).toNat = e.toNat / 2 ^ 16 % 2 ^ 16 := by
  rw [gateSel, BitVec.extractLsb'_toNat, Nat.shiftRight_eq_div_pow]

theorem toNat_gateAttr (e : GateEntry) : (gateAttr e).toNat = e.toNat / 2 ^ 40 % 2 ^ 8 := by
  rw [gateAttr, BitVec.extractLsb'_toNat, Nat.shiftRight_eq_div_pow]

/-! ### GE[c] written, and GE[c] read or UNINIT (10_state R25) -/

theorem execGateNew_writesOwn {s : State} {x : Selector} (hc : s.curOk) (hx : s.me.sel = some x) (addr : Addr) :
    ∃ t, exec (.gateNew addr) s = .next t ∧ WritesOwn s t { s.me with ge := some (gateEncode x addr attrDefault) } :=
  ⟨_, needSel_of_some hx _, State.writesOwn_updMe_advance hc rfl⟩

theorem execGateMissing_writesOwn {s : State} (hc : s.curOk) :
    ∃ t, exec .gateMissing s = .next t ∧ WritesOwn s t { s.me with ge := some gateMissingEntry } :=
  ⟨_, rfl, State.writesOwn_updMe_advance hc rfl⟩

theorem needGe_of_some {s : State} {e : GateEntry} (h : s.me.ge = some e) (k : GateEntry → Result) : needGe s k = k e := by
  rw [needGe, h]

/-- A command that reads GE[c] first raises UNINIT when it is ⊥. -/
theorem raises_uninit_of_needGe {i : Instr} {s : State} {k : GateEntry → Result} (hi : exec i s = needGe s k)
    (h : s.me.ge = none) : Raises i s .uninit 0 :=
  ⟨s.raise .uninit 0, by rw [hi, needGe, h, raising], rfl⟩

theorem getGateField_writesOwn {s : State} {e : GateEntry} (hc : s.curOk) (he : s.me.ge = some e) (f : GateEntry → Payload) :
    ∃ t, getGateField f s = .next t ∧ WritesOwn s t { s.me with res := some (f e) } :=
  ⟨_, needGe_of_some he _, State.writesOwn_updMe_advance hc rfl⟩

/-! ### The bytes of an entry in memory order (30_encoding R93) -/

/-- A field of a field; `BitVec.extractLsb'_extractLsb'_of_le` is the case of an outer field from bit 0. -/
theorem extractLsb'_extractLsb' {w : Nat} (x : BitVec w) {a n k m : Nat} (h : k + m ≤ n) :
    (x.extractLsb' a n).extractLsb' k m = x.extractLsb' (a + k) m := by
  apply BitVec.eq_of_getLsbD_eq
  intro i hi
  simp [hi, Nat.add_assoc, show k + i < n by omega]

section
variable (e : GateEntry) {k n : Nat}

theorem extractLsb'_gateOffset_low (h : k + n ≤ 16) : (gateOffset e).extractLsb' k n = e.extractLsb' k n := by
  rw [gateOffset, BitVec.extractLsb'_append_eq_of_add_le h, extractLsb'_extractLsb' e h, Nat.zero_add]

theorem extractLsb'_gateOffset_high (h : k + n ≤ 16) : (gateOffset e).extractLsb' (16 + k) n = e.extractLsb' (48 + k) n := by
  rw [gateOffset, BitVec.extractLsb'_append_eq_of_le (Nat.le_add_right 16 k), Nat.add_sub_cancel_left,
    extractLsb'_extractLsb' e h]

theorem extractLsb'_gateSel (h : k + n ≤ 16) : (gateSel e).extractLsb' k n = e.extractLsb' (16 + k) n :=
  extractLsb'_extractLsb' e h

/-- The layout of an entry: each byte is a byte of one of its fields (30_encoding R93). -/
theorem map_gateByte_range_eight : (List.range 8).map (gateByte e) =
    [(gateOffset e).extractLsb' 0 8, (gateOffset e).extractLsb' 8 8, (gateSel e).extractLsb' 0 8, (gateSel e).extractLsb' 8 8,
      gateReserved e, gateAttr e, (gateOffset e).extractLsb' 16 8, (gateOffset e).extractLsb' 24 8] := by
  rw [extractLsb'_gateOffset_low e (by decide), extractLsb'_gateOffset_low e (by decide), extractLsb'_gateSel e (by decide),
    extractLsb'_gateSel e (by decide), extractLsb'_gateOffset_high e (k := 0) (by decide),
    extractLsb'_gateOffset_high e (k := 8) (by decide)]
  rfl

end

/-! ### The setters with target ge, one after another (42_gate_entry R175) -/

/-- A setter with target ge rewrites the attr byte of GE[c] and writes nothing else. -/
theorem setAttrField_ge_writesOwn {s : State} {e : GateEntry} (hc : s.curOk) (he : s.me.ge = some e) (f : Byte → Byte) :
    ∃ t, setAttrField .ge f s = .next t ∧ WritesOwn s t { s.me with ge := some (gateWithAttr e (f (gateAttr e))) } := by
  refine ⟨_, attrRead_of_attrHolds true _ ⟨e, he, rfl⟩ nofun, ?_⟩
  rw [State.attrWrite_ge he]
  exact State.writesOwn_updMe_advance hc rfl

/-- Setters with target ge leave in GE[c] an encoding of the same selector and address. -/
theorem runAll_geSetters_gateEncode (l : List Instr) (hl : ∀ i ∈ l, ∃ f, ∀ s, exec i s = setAttrField .ge f s)
    {x : Selector} {off : Addr} {s : State} {a : Byte} (hc : s.curOk) (hge : s.me.ge = some (gateEncode x off a)) :
    ∃ u b, runAll l s = .next u ∧ u.me.ge = some (gateEncode x off b) := by
  induction l generalizing s a with
  | nil => exact ⟨s, a, rfl, hge⟩
  | cons i l ih =>
    obtain ⟨⟨f, hf⟩, hl⟩ := List.forall_mem_cons.1 hl
    obtain ⟨t, ht, hown⟩ := setAttrField_ge_writesOwn hc hge f
    have htge : t.me.ge = some (gateEncode x off (f a)) := by
      rw [hown.1, gateAttr_gateEncode, gateWithAttr_gateEncode]
    rw [runAll_cons ((hf s).trans ht)]
    exact ih hl (hown.curOk hc) htge

end Sys2Proof.Machine

open Sys2Proof Sys2Proof.Machine

/-- Settles O20: the entry is gate_encode with the default attribute byte, whose present bit is 0. -/
theorem gateNewEncodesTheEntry : Obligations.GateNewEncodesTheEntry := by
  unfold Obligations.GateNewEncodesTheEntry
  refine ⟨wordRule_of_row Row.gateNew, fun s hc x addr hx => ?encodes, fun s hs addr => raises_uninit_of_needSel rfl hs⟩
  case encodes =>
    obtain ⟨t, ht, hown⟩ := execGateNew_writesOwn hc hx addr
    exact ⟨t, _, ht, hown, rfl, congrArg attrPresent (gateAttr_gateEncode x addr attrDefault)⟩

/-- Settles O21: GATE_MISSING reads no register, and its row reserves every bit below the opcode. -/
theorem gateMissingGivesZero : Obligations.GateMissingGivesZero := by
  unfold Obligations.GateMissingGivesZero
  exact ⟨wordRule_of_row Row.gateMissing, fun _ hc => execGateMissing_writesOwn hc⟩

/-- Settles O22: the field a getter extracts is that of the entry's value, divided as R95 places the fields. -/
theorem gateGettersExtractFields : Obligations.GateGettersExtractFields := by
  unfold Obligations.GateGettersExtractFields
  refine ⟨?offsetWord, ?selWord, ?attrWord, ?reads, ?uninit⟩
  case offsetWord => exact wordRule_of_row Row.gateGetOffset
  case selWord => exact wordRule_of_row Row.gateGetSel
  case attrWord => exact wordRule_of_row Row.gateGetAttr
  case reads =>
    intro s hc e he
    rw [← toNat_gateOffset, ← toNat_gateSel, ← toNat_gateAttr]
    simp only [BitVec.ofNat_toNat, BitVec.setWidth_eq]
    exact ⟨getGateField_writesOwn hc he gateOffset, getGateField_writesOwn hc he fun e => (gateSel e).setWidth 32,
      getGateField_writesOwn hc he fun e => (gateAttr e).setWidth 32⟩
  case uninit =>
    intro s hs
    exact ⟨raises_uninit_of_needGe rfl hs, raises_uninit_of_needGe rfl hs, raises_uninit_of_needGe rfl hs⟩

/-- Settles O24: the setters change only the attribute byte of the encoding, whose other bytes are those of its operands. -/
theorem gateEntryLayout : Obligations.GateEntryLayout := by
  unfold Obligations.GateEntryLayout
  intro s x addr l hc hx hl
  have hset : ∀ i ∈ l, ∃ f, ∀ s, exec i s = setAttrField .ge f s := by
    intro i hi
    obtain ⟨p, rfl⟩ | ⟨k, rfl⟩ | ⟨d, rfl⟩ := hl i hi
    · exact ⟨fun a => attrWithPresent a p, fun _ => rfl⟩
    · exact ⟨fun a => attrWithKind a k, fun _ => rfl⟩
    · exact ⟨fun a => attrWithDpl a d, fun _ => rfl⟩
  obtain ⟨t, hnew, hown⟩ := execGateNew_writesOwn hc hx addr
  have hge : t.me.ge = some (gateEncode x addr attrDefault) := by rw [hown.1]
  obtain ⟨u, b, hrun, hu⟩ := runAll_geSetters_gateEncode l hset (hown.curOk hc) hge
  refine ⟨u, gateEncode x addr b, (runAll_cons hnew l).trans hrun, hu, ?_⟩
  rw [map_gateByte_range_eight, gateOffset_gateEncode, gateSel_gateEncode, gateReserved_gateEncode]

end

section
/-! The table commands (43_idt R190 to R196): the clear as a loop of writes, each command completed and its faults, what a loaded
table keeps through every step, and the setters on an entry that a second IDT_SET_HANDLER overwrites. -/

namespace Sys2Proof.Machine

/-! ### The clear as the rule's loop (43_idt R190) -/

/-- One entry more cleared is one entry more overwritten with zeros. -/
theorem Memory.clear_entries_succ {m : Memory} (h : Memory.wf m) (base n : Nat) :
    Memory.clear m base (8 * (n + 1)) = Memory.writeLE (Memory.clear m base (8 * n)) (base + 8 * n) 8 0 := by
  have hwf : Memory.wf (Memory.clear m base (8 * n)) := Memory.wf_clear h _ _
  refine Memory.ext (Memory.wf_clear h _ _) (Memory.wf_writeLE hwf _ _ _) fun a => ?_
  rw [Memory.read_clear, Memory.read_writeLE hwf, Memory.read_clear, Nat.zero_div]
  by_cases hlast : base + 8 * n ≤ a ∧ a < base + 8 * n + 8
  · rw [if_pos (by omega), if_pos hlast]
    rfl
  · rw [if_neg hlast]
    exact if_congr (by omega) rfl rfl

/-! ### The table commands, completed -/

section
variable {s : State}

theorem exec_idtNew (hp : s.phase ≠ .loaded) :
    exec .idtNew s = .next ((s.clearTable.setPhase .unbuilt).clearHandles).advance := if_neg hp

theorem exec_idtSetHandler {v : BitVec 16} (addr : Addr) (hp : s.phase ≠ .loaded) (hv : v.toNat < s.params.nVectors) :
    exec (.idtSetHandler v addr) s =
      .next (((s.writeTable (entryAddr s.params v.toNat) 8 (handlerEntry s.params addr).toNat).setPhase .populated).setHandle
        v.toNat).advance := (if_neg hp).trans (if_pos hv)

theorem exec_idtLoad (hc : s.cpl s.cur = 0) (hp : s.phase ≠ .loaded) :
    exec .idtLoad s = .next (((s.loadIdtr (pointerOf s.params)).setPhase .loaded).clearHandles).advance :=
  (if_pos hc).trans (if_neg hp)

/-! ### Their faults (60_exceptions R253) -/

/-- A command that begins with the test of PHASE raises TABLE_LOCKED while the table is loaded. -/
theorem raises_tableLocked_of_needUnlocked {i : Instr} {info : BitVec 32} {k : Result}
    (hi : exec i s = needUnlocked s info k) (h : s.phase = .loaded) : Raises i s .tableLocked info :=
  ⟨s.raise .tableLocked info, by rw [hi, needUnlocked, if_pos h, raising], rfl⟩

theorem raises_idtNew_tableLocked (h : s.phase = .loaded) : Raises .idtNew s .tableLocked 0 :=
  raises_tableLocked_of_needUnlocked rfl h

theorem raises_idtSetHandler_tableLocked (h : s.phase = .loaded) (v : BitVec 16) (addr : Addr) :
    Raises (.idtSetHandler v addr) s .tableLocked (v.setWidth 32) :=
  raises_tableLocked_of_needUnlocked rfl h

theorem raises_idtSetHandler_vectorRange (h : s.phase ≠ .loaded) {v : BitVec 16} (addr : Addr)
    (hv : s.params.nVectors ≤ v.toNat) : Raises (.idtSetHandler v addr) s .vectorRange (v.setWidth 32) :=
  ⟨s.raise .vectorRange (v.setWidth 32), (if_neg h).trans (if_neg (Nat.not_lt.2 hv)), rfl⟩

theorem raises_idtLoad_privilege (h : s.cpl s.cur ≠ 0) : Raises .idtLoad s .privilege ((s.cpl s.cur).setWidth 32) :=
  ⟨s.raise .privilege ((s.cpl s.cur).setWidth 32), if_neg h, rfl⟩

theorem raises_idtLoad_tableLocked (hc : s.cpl s.cur = 0) (h : s.phase = .loaded) : Raises .idtLoad s .tableLocked 0 :=
  raises_tableLocked_of_needUnlocked (if_pos hc) h

theorem Raises.phase {t : State} {i : Instr} {code : FaultCode} {info : BitVec 32} (h : Raises i s code info)
    (ht : exec i s = .next t) : t.phase = s.phase := by
  obtain ⟨u, hu, rfl⟩ := h
  cases hu.symm.trans ht
  rfl

/-! ### The registers after a table command -/

theorem State.ctx_setHandle_advance_ne (v : Nat) {c : Nat} (h : c ≠ s.cur) : (s.setHandle v).advance.ctx c = s.ctx c :=
  (State.ctx_advance_ne (s.setHandle v) h).trans (s.ctx_setHandle_ne v h)

theorem State.me_clearHandles_advance (hc : s.curOk) :
    s.clearHandles.advance.me = { s.me with handle := none, pc := s.me.pc + 1 } := by
  rw [State.me_advance _ (by simpa [State.curOk] using hc), State.me_clearHandles]

theorem State.ctx_clearHandles_advance_ne {c : Nat} (h : c ≠ s.cur) :
    s.clearHandles.advance.ctx c = { s.ctx c with handle := none } :=
  (State.ctx_advance_ne s.clearHandles h).trans (s.ctx_clearHandles c)

theorem State.ctxs_length_clearHandles_advance : s.clearHandles.advance.ctxs.length = s.ctxs.length := by
  rw [State.ctxs_length_advance, State.ctxs_length_clearHandles]

end

/-! ### The bytes IDT_SET_HANDLER writes, in memory order (43_idt R191, 30_encoding R93) -/

theorem map_gateByte_handlerEntry (p : Params) (addr : Addr) : (List.range 8).map (gateByte (handlerEntry p addr)) =
    [addr.extractLsb' 0 8, addr.extractLsb' 8 8, p.handlerSel.extractLsb' 0 8, p.handlerSel.extractLsb' 8 8,
      0x00, 0x00, addr.extractLsb' 16 8, addr.extractLsb' 24 8] := by
  rw [map_gateByte_range_eight, handlerEntry, gateOffset_gateEncode, gateSel_gateEncode, gateReserved_gateEncode,
    gateAttr_gateEncode, attrDefault]

/-! ### The pointer IDT_LOAD forms (43_idt R192) -/

/-- The last byte's offset in TR fits the 16 bits of the limit, as N_VECTORS <= 8192 (00_scope R7, 43_idt R195). -/
theorem Params.toNat_limit {p : Params} (h : p.wf = true) : (BitVec.ofNat 16 (p.tableBytes - 1)).toNat = 8 * p.nVectors - 1 := by
  have hn : p.nVectors ≤ 8192 := by
    simp only [Params.wf, Params.vectorsOk, Bool.and_eq_true, decide_eq_true_eq] at h
    omega
  rw [BitVec.toNat_ofNat, Params.tableBytes, Nat.mod_eq_of_lt (by omega)]

theorem toNat_pointerOf {p : Params} (h : p.wf = true) :
    (pointerOf p).toNat = p.tbase.toNat * 2 ^ 16 + (8 * p.nVectors - 1) := by
  rw [pointerOf, BitVec.toNat_append, ← Nat.shiftLeft_add_eq_or_of_lt (BitVec.isLt _), Params.toNat_limit h, Nat.shiftLeft_eq]

/-! ### The table, PHASE and IDTR through a step (43_idt R193, R194) -/

/-- Memory, PHASE and IDTR are as before. -/
structure SameTable (s t : State) : Prop where
  mem : t.mem = s.mem
  phase : t.phase = s.phase
  idtr : t.idtr = s.idtr

theorem State.sameTable_endIfFinished (s : State) (c : Nat) : SameTable s (s.endIfFinished c) := by
  unfold State.endIfFinished
  split
  · exact ⟨s.endContext_mem c, s.endContext_phase c, s.endContext_idtr c⟩
  · exact ⟨rfl, rfl, rfl⟩

theorem SameTable.trans {s t u : State} (h : SameTable s t) (h' : SameTable t u) : SameTable s u :=
  ⟨h'.mem.trans h.mem, h'.phase.trans h.phase, h'.idtr.trans h.idtr⟩

section
variable {s t : State}

/-- The commands that write the table, PHASE or IDTR do so only while the table is not loaded. -/
theorem Effect.sameTable_of_loaded {i : Instr} (h : Effect s i t) (hl : s.phase = .loaded) : SameTable s t := by
  cases h with
  | wroteTableAttr _ _ _ _ _ hp => exact absurd hl hp
  | cleared hp => exact absurd hl hp
  | wroteEntry _ _ hp => exact absurd hl hp
  | loaded _ hp => exact absurd hl hp
  | _ => exact ⟨rfl, rfl, rfl⟩

/-- Only the three table commands write PHASE. -/
theorem Effect.phase_of_ne {i : Instr} (h : Effect s i t) (hnew : i ≠ .idtNew) (hset : ∀ v addr, i ≠ .idtSetHandler v addr)
    (hload : i ≠ .idtLoad) : t.phase = s.phase := by
  cases h with
  | cleared => exact absurd rfl hnew
  | wroteEntry v addr => exact absurd rfl (hset v addr)
  | loaded => exact absurd rfl hload
  | _ => rfl

/-- The dispatch agent and the environment never write the table, PHASE or IDTR, and a context does not while the table is
loaded. -/
theorem MoveEffect.sameTable {m : Move} (h : MoveEffect s m t) (hm : s.phase = .loaded ∨ ∀ c, m ≠ .ctx c) :
    SameTable s t := by
  cases h with
  | command c w i u _ _ he =>
    have hfocus : SameTable s (s.focus c) := ⟨rfl, rfl, rfl⟩
    have hu : SameTable (s.focus c) u := (exec_effect he).sameTable_of_loaded (hm.resolve_right fun hne => hne c rfl)
    exact (hfocus.trans hu).trans (u.sameTable_endIfFinished c)
  | started r ev h =>
    have hu : SameTable s ((s.record ev).pushHandler h) := ⟨rfl, rfl, rfl⟩
    exact hu.trans (State.sameTable_endIfFinished _ h)
  | _ => exact ⟨rfl, rfl, rfl⟩

end

/-! ### Commands on an open entry (43_idt R196) -/

theorem runAll_append {l : List Instr} {s t : State} (h : runAll l s = .next t) (l' : List Instr) :
    runAll (l ++ l') s = runAll l' t := by
  induction l generalizing s with
  | nil => cases h; rfl
  | cons i l ih =>
    rw [runAll] at h
    split at h
    · rename_i u hu
      rw [List.cons_append, runAll_cons hu]
      exact ih h
    · cases h
    · cases h

/-- Setters with target tbl keep the entry open, whatever attr byte they leave. -/
theorem runAll_tblSetters_entryOpen {p : Params} {v : Nat} (l : List Instr)
    (hl : ∀ i ∈ l, ∃ f, ∀ s, exec i s = setAttrField .tbl f s) {s : State} {e : GateEntry} (h : EntryOpen p v e s) :
    ∃ u e', runAll l s = .next u ∧ EntryOpen p v e' u := by
  induction l generalizing s e with
  | nil => exact ⟨s, e, rfl, h⟩
  | cons i l ih =>
    obtain ⟨⟨f, hf⟩, hl⟩ := List.forall_mem_cons.1 hl
    obtain ⟨t, ht, hopen, -⟩ := setAttrField_entryOpen h f
    rw [runAll_cons ((hf s).trans ht)]
    exact ih hl hopen

end Sys2Proof.Machine

open Sys2Proof Sys2Proof.Machine

/-- Settles O30: every effect that writes the table, PHASE or IDTR has PHASE ≠ LOADED as its condition. -/
theorem noMutationAfterLoad : Obligations.NoMutationAfterLoad := by
  unfold Obligations.NoMutationAfterLoad
  intro s hl
  refine ⟨fun t hstep => ?step, raises_idtNew_tableLocked hl, raises_idtSetHandler_tableLocked hl,
    fun hc => raises_idtLoad_tableLocked hc hl, attrSetters_raise fun k => attrRead_tbl_of_loaded k hl⟩
  case step =>
    obtain ⟨m, -, -, hm⟩ := step_trans hstep
    obtain ⟨hmem, hphase, hidtr⟩ := (takeMove_effect hm).sameTable (.inl hl)
    exact ⟨fun a => by rw [hmem]; rfl, hphase.trans hl, hidtr⟩

/-- Settles O25: the clear of TR, PHASE and the handles, read one field at a time. -/
theorem idtNewClearsTheTable : Obligations.IdtNewClearsTheTable := by
  unfold Obligations.IdtNewClearsTheTable
  refine ⟨wordRule_of_row Row.idtNew, fun s hc hp => ?clears, fun s hl => raises_idtNew_tableLocked hl⟩
  case clears =>
    refine ⟨_, exec_idtNew hp, fun a hlo hhi => ?inTable, fun a ha => ?outside, rfl, State.me_clearHandles_advance hc,
      State.ctxs_length_clearHandles_advance, fun c hne => State.ctx_clearHandles_advance_ne hne, ?block,
      ⟨rfl, fun _ => rfl⟩, _, rfl⟩
    case inTable => exact (Memory.read_clear _ _ _ _).trans (if_pos ⟨hlo, hhi⟩)
    case outside => exact (Memory.read_clear _ _ _ _).trans (if_neg (by rw [Params.tableBytes]; omega))
    case block => constructor <;> rfl

/-- Settles O26, by induction on the number of entries. -/
theorem clearIsTheLoopOfWrites : Obligations.ClearIsTheLoopOfWrites := by
  unfold Obligations.ClearIsTheLoopOfWrites
  intro m base n h
  induction n with
  | zero => exact Memory.ext (Memory.wf_clear h _ _) h fun a => by rw [Memory.read_clear, if_neg (by omega)]; rfl
  | succ n ih => rw [Memory.clear_entries_succ h, ih, List.range_succ, List.foldl_append]; rfl

/-- Settles O27: the entry's bytes are those of its encoding, which the layout of R93 gives from the operands. -/
theorem idtSetHandlerWritesTheEntry : Obligations.IdtSetHandlerWritesTheEntry := by
  unfold Obligations.IdtSetHandlerWritesTheEntry
  refine ⟨wordRule_of_row Row.idtSetHandler, fun s v addr hc hwf hp hv => ?writes,
    fun s v addr hl => raises_idtSetHandler_tableLocked hl v addr,
    fun s v addr hp hv => raises_idtSetHandler_vectorRange hp addr hv⟩
  case writes =>
    refine ⟨_, exec_idtSetHandler addr hp hv, ?bytes, fun a ha => ?otherBytes, State.me_setHandle_advance _ _ (by exact hc),
      ?others, ?block, ⟨rfl, fun _ => rfl⟩, rfl⟩
    case bytes =>
      rw [← map_gateByte_handlerEntry]
      exact List.map_congr_left fun k hk =>
        (Memory.read_writeEntry hwf _ _ _ _ (List.mem_range.1 hk)).trans (if_pos rfl)
    case otherBytes => exact (Memory.read_writeLE hwf _ _ _ _).trans (if_neg (by rw [entryAddr]; omega))
    case others => exact ⟨by simp, fun c hne => State.ctx_setHandle_advance_ne _ hne⟩
    case block => constructor <;> rfl

/-- Settles O28: the setters keep the entry open, and the second IDT_SET_HANDLER writes all of its eight bytes. -/
theorem secondHandlerReplacesTheFirst : Obligations.SecondHandlerReplacesTheFirst := by
  unfold Obligations.SecondHandlerReplacesTheFirst
  intro s v a1 a2 l hc hwf hp hv hl
  have hset : ∀ i ∈ l, ∃ f, ∀ s, exec i s = setAttrField .tbl f s := by
    intro i hi
    obtain ⟨p, rfl⟩ | ⟨k, rfl⟩ | ⟨d, rfl⟩ := hl i hi
    · exact ⟨fun a => attrWithPresent a p, fun _ => rfl⟩
    · exact ⟨fun a => attrWithKind a k, fun _ => rfl⟩
    · exact ⟨fun a => attrWithDpl a d, fun _ => rfl⟩
  obtain ⟨t, ht, hopen, -⟩ := exec_idtSetHandler_entryOpen a1 hc hwf hp hv
  obtain ⟨u, e, hu, hopen⟩ := runAll_tblSetters_entryOpen l hset hopen
  have hv' : v.toNat < u.params.nVectors := hopen.params ▸ hopen.inRange
  obtain ⟨w, hw, hopen', -⟩ := exec_idtSetHandler_entryOpen a2 hopen.cur hopen.wf (by simp [hopen.phase]) hv'
  rw [hopen.params] at hopen'
  refine ⟨w, ?run, hopen'.readEntry⟩
  case run =>
    calc runAll (.idtSetHandler v a1 :: l ++ [.idtSetHandler v a2]) s = runAll [.idtSetHandler v a2] u :=
          runAll_append ((runAll_cons ht l).trans hu) _
      _ = .next w := runAll_cons hw []

/-- Settles O29: the pointer's size and base are the table's, and its 48 bits are their concatenation. -/
theorem idtLoadSetsIdtr : Obligations.IdtLoadSetsIdtr := by
  unfold Obligations.IdtLoadSetsIdtr
  refine ⟨wordRule_of_row Row.idtLoad, fun s hc hwf hcpl hp => ?loads, fun s hcpl => raises_idtLoad_privilege hcpl,
    fun s hcpl hl => raises_idtLoad_tableLocked hcpl hl⟩
  case loads =>
    refine ⟨_, exec_idtLoad hcpl hp, ⟨_, rfl, ?limit, pointerBase_pointerOf s.params, ?block⟩,
      State.me_clearHandles_advance hc, State.ctxs_length_clearHandles_advance,
      fun c hne => State.ctx_clearHandles_advance_ne hne, fun _ => rfl, ⟨rfl, fun _ => rfl⟩,
      pointerOf s.params, rfl, toNat_pointerOf hwf⟩
    case limit => rw [pointerSize_pointerOf, Params.toNat_limit hwf]
    case block => constructor <;> rfl

/-- Settles O31: a loaded table keeps PHASE; else each table command completes or raises its fault, and no other writes PHASE. -/
theorem phaseTransitions : Obligations.PhaseTransitions := by
  unfold Obligations.PhaseTransitions
  refine ⟨fun i s t h => ?command, fun r s t h => ?dispatch, fun b s t h => ?environment⟩
  case command =>
    by_cases hp : s.phase = .loaded
    · exact .inr (.inr (.inr ⟨((exec_effect h).sameTable_of_loaded hp).phase, .inl hp⟩))
    cases i with
    | idtNew =>
      cases (exec_idtNew hp).symm.trans h
      exact .inr (.inl ⟨hp, rfl, rfl⟩)
    | idtSetHandler v addr =>
      by_cases hv : v.toNat < s.params.nVectors
      · cases (exec_idtSetHandler addr hp hv).symm.trans h
        exact .inl ⟨hp, ⟨v, addr, rfl, hv⟩, rfl⟩
      · have hge : s.params.nVectors ≤ v.toNat := Nat.not_lt.1 hv
        refine .inr (.inr (.inr ⟨(raises_idtSetHandler_vectorRange hp addr hge).phase h, .inr ⟨nofun, nofun, ?_⟩⟩))
        rintro _ _ ⟨⟩
        exact hge
    | idtLoad =>
      by_cases hc : s.cpl s.cur = 0
      · cases (exec_idtLoad hc hp).symm.trans h
        exact .inr (.inr (.inl ⟨hp, rfl, hc, rfl⟩))
      · exact .inr (.inr (.inr ⟨(raises_idtLoad_privilege hc).phase h, .inr ⟨nofun, fun _ => hc, nofun⟩⟩))
    | _ => exact .inr (.inr (.inr ⟨(exec_effect h).phase_of_ne nofun nofun nofun, .inr ⟨nofun, nofun, nofun⟩⟩))
  case dispatch => exact ((takeMove_effect h).sameTable (.inr nofun)).phase
  case environment => exact ((takeMove_effect h).sameTable (.inr nofun)).phase

end

section
/-! The mutex commands (44_spinlock R220 to R226): the word rule of the formats M and MD, the frame of a command that writes a
mutex, each command completed, and its faults. -/

namespace Sys2Proof

/-- A row of format M or MD, which reserves the bits from lo up to the mutex field, selects a word of its opcode exactly when
those bits are zero (30_encoding R102 to R104). -/
theorem Row.selects_eq_field_zero_of_mutex {r : Row} {op lo n : Nat} {w : Word} (h : opcodeField w = op) (hlo : lo + n = 48)
    (hmask : ∀ i < 64, r.mask.getLsbD i = (decide (56 ≤ i) || decide (lo ≤ i ∧ i < 48)))
    (hpat : ∀ i < 64, r.pat.getLsbD i = (decide (56 ≤ i) && (BitVec.ofNat 8 op).getLsbD (i - 56))) :
    r.selects w = (w.extractLsb' lo n == 0) := by
  rw [Bool.eq_iff_iff, selects_iff h (fun i => decide (lo ≤ i ∧ i < 48)) hmask hpat, beq_iff_eq, extractLsb'_eq_zero_iff]
  constructor
  · intro hz i hi
    exact hz (lo + i) (by omega) (decide_eq_true (by omega))
  · intro hz i _ hi
    obtain ⟨hle, hlt⟩ := of_decide_eq_true hi
    simpa only [Nat.add_sub_cancel' hle] using hz (i - lo) (by omega)

namespace Machine

/-- The word rule of such a row. The hypotheses are closed facts of each row, so they are decided where the lemma is used. -/
theorem mutexWordRule_of_row (r : Row) {op lo n : Nat} {i : Word → Instr} (k : Word → BitVec 8 → Instr)
    (hk : ∀ w, k w (mutexField w) = i w := by intro w; rfl)
    (hdecode : ∀ m w, opcodeField w = op → decode m w = ifSelects r w (withMutexField m w (k w)) := by
      intro m w h; rw [decode, h]; rfl)
    (hlo : lo + n = 48 := by decide)
    (hmask : ∀ i < 64, r.mask.getLsbD i = (decide (56 ≤ i) || decide (lo ≤ i ∧ i < 48)) := by decide)
    (hpat : ∀ i < 64, r.pat.getLsbD i = (decide (56 ≤ i) && (BitVec.ofNat 8 op).getLsbD (i - 56)) := by decide) :
    MutexWordRule op (fun w => w.extractLsb' lo n == 0) i := by
  intro m w h
  rw [hdecode m w h, ifSelects, Row.selects_eq_field_zero_of_mutex h hlo hmask hpat, withMutexField, hk, mutexField]

/-! ### A command that writes a mutex -/

/-- A write of mutex m, with or without an event, and the advance of PC[c]. -/
theorem State.writesMutex_advance {s u : State} (hc : s.curOk) {m : Nat} (hm : m < s.mutexes.length) {f : Mutex → Mutex}
    {x : Mutex} (hu : u = { s.updMutex m f with hist := u.hist }) (hx : f (s.mutex m) = x) :
    WritesMutex s u.advance s.me m x := by
  generalize u.hist = l at hu
  subst hu hx
  exact {
    me := State.me_advance _ hc
    mutex := State.mutex_updMutex_self s f hm
    mutexes := ⟨List.length_modify .., fun _ hne => State.mutex_updMutex_ne s f hne⟩
    block := by constructor <;> rfl
    memory := fun _ => rfl
    others := ⟨State.ctxs_length_advance _, fun _ hne => State.ctx_advance_ne _ hne⟩ }

/-! ### The mutex commands, completed -/

section
variable {s : State} {m : BitVec 8}

theorem exec_mutexNew_of_free (d : Payload) (hf : (s.mutex m.toNat).flag = false) :
    exec (.mutexNew m d) s = .next (s.updMutex m.toNat fun _ => ⟨false, d, none⟩).advance :=
  if_neg (by simp [State.flag, hf])

/-- An attempt on a clear flag takes the mutex (44_spinlock R222). -/
theorem exec_mutexLock_of_free (hf : (s.mutex m.toNat).flag = false) :
    exec (.mutexLock m) s = .next ((s.updMutex m.toNat fun x => ⟨true, x.payload, some s.cur⟩).record
      (.lockAttempt s.cur m.toNat true)).advance := by
  rw [exec, execMutexLock, State.xchgAcquire_free hf]
  simp only [State.updMutex_updMutex]

/-- An attempt on a held flag changes HIST alone, whoever holds the mutex (44_spinlock R222). -/
theorem exec_mutexLock_of_held (hf : (s.mutex m.toNat).flag = true) :
    exec (.mutexLock m) s = .next (s.record (.lockAttempt s.cur m.toNat false)) := by
  rw [exec, execMutexLock, State.xchgAcquire_held hf]

theorem needGuard_of_holder (h : (s.mutex m.toNat).holder = some s.cur) (k : Result) : needGuard s m k = k := if_pos h

theorem needRes_of_some {x : Payload} (h : s.me.res = some x) (k : Payload → Result) : needRes s k = k x := by
  rw [needRes, h]

theorem exec_mutexUnlock_of_holder (h : (s.mutex m.toNat).holder = some s.cur) :
    exec (.mutexUnlock m) s = .next ((s.release m.toNat).record (.release s.cur m.toNat)).advance :=
  needGuard_of_holder h _

theorem exec_mutexRead_of_holder (h : (s.mutex m.toNat).holder = some s.cur) :
    exec (.mutexRead m) s = .next (s.setRes (s.mutex m.toNat).payload).advance :=
  needGuard_of_holder h _

theorem exec_mutexWrite_of_holder (d : Payload) (h : (s.mutex m.toNat).holder = some s.cur) :
    exec (.mutexWrite m d) s = .next (s.setPayload m.toNat d).advance :=
  needGuard_of_holder h _

theorem exec_mutexWriteadd_of_holder {x : Payload} (d : Payload) (hx : s.me.res = some x)
    (h : (s.mutex m.toNat).holder = some s.cur) :
    exec (.mutexWriteadd m d) s = .next (s.setPayload m.toNat (x + d)).advance :=
  (needRes_of_some hx _).trans (needGuard_of_holder h _)

/-! ### Their faults (60_exceptions R253) -/

theorem raises_mutexNew_mutexBusy (d : Payload) (hf : (s.mutex m.toNat).flag = true) :
    Raises (.mutexNew m d) s .mutexBusy (m.setWidth 32) :=
  ⟨s.raise .mutexBusy (m.setWidth 32), if_pos hf, rfl⟩

/-- A command that tests the guard raises GUARD_NOT_HELD for anyone but the holder. -/
theorem raises_guardNotHeld_of_needGuard {i : Instr} {k : Result} (hi : exec i s = needGuard s m k)
    (h : (s.mutex m.toNat).holder ≠ some s.cur) : Raises i s .guardNotHeld (m.setWidth 32) :=
  ⟨s.raise .guardNotHeld (m.setWidth 32), hi.trans (if_neg h), rfl⟩

theorem raises_mutexWriteadd_uninit (m : BitVec 8) (d : Payload) (h : s.me.res = none) :
    Raises (.mutexWriteadd m d) s .uninit 0 :=
  ⟨s.raise .uninit 0, by rw [exec, execMutexWriteadd, needRes, h, raising], rfl⟩

end

end Machine
end Sys2Proof

open Sys2Proof Sys2Proof.Machine

/-- Settles O33: the flag is tested first, and the write of the mutex is the only one. -/
theorem mutexNewInitialises : Obligations.MutexNewInitialises := by
  unfold Obligations.MutexNewInitialises
  refine ⟨mutexWordRule_of_row Row.mutexNew fun w m => .mutexNew m (immField 32 w), fun s m d hc hm hf => ?writes,
    fun s m d hf => raises_mutexNew_mutexBusy d hf⟩
  case writes => exact ⟨_, exec_mutexNew_of_free d hf, State.writesMutex_advance hc hm rfl rfl, rfl⟩

/-- Settles O34: the exchange sets a clear flag, and on a held one it writes 1 over 1. -/
theorem mutexLockAcquiresOrSpins : Obligations.MutexLockAcquiresOrSpins := by
  unfold Obligations.MutexLockAcquiresOrSpins
  refine ⟨mutexWordRule_of_row Row.mutexLock fun _ m => .mutexLock m, fun s m hc hm hf => ?acquires,
    fun s m hf => exec_mutexLock_of_held hf⟩
  case acquires => exact ⟨_, exec_mutexLock_of_free hf, State.writesMutex_advance hc hm rfl rfl, rfl⟩

/-- Settles O35: the guard is tested first, and the release is the only write. -/
theorem mutexUnlockReleases : Obligations.MutexUnlockReleases := by
  unfold Obligations.MutexUnlockReleases
  refine ⟨mutexWordRule_of_row Row.mutexUnlock fun _ m => .mutexUnlock m, fun s m hc hm hh => ?releases,
    fun s m hh => raises_guardNotHeld_of_needGuard rfl hh⟩
  case releases => exact ⟨_, exec_mutexUnlock_of_holder hh, State.writesMutex_advance hc hm rfl rfl, rfl⟩

/-- Settles O36: the guard is tested first, and RES[c] is the only register written. -/
theorem mutexReadGivesThePayload : Obligations.MutexReadGivesThePayload := by
  unfold Obligations.MutexReadGivesThePayload
  refine ⟨mutexWordRule_of_row Row.mutexRead fun _ m => .mutexRead m, fun s m hc hh => ?reads,
    fun s m hh => raises_guardNotHeld_of_needGuard rfl hh⟩
  case reads => exact ⟨_, exec_mutexRead_of_holder hh, State.writesOwn_updMe_advance hc rfl⟩

/-- Settles O37: the guard is tested first, and the payload is the only write. -/
theorem mutexWriteSetsThePayload : Obligations.MutexWriteSetsThePayload := by
  unfold Obligations.MutexWriteSetsThePayload
  refine ⟨mutexWordRule_of_row Row.mutexWrite fun w m => .mutexWrite m (immField 32 w), fun s m d hc hm hh => ?writes,
    fun s m d hh => raises_guardNotHeld_of_needGuard rfl hh⟩
  case writes => exact ⟨_, exec_mutexWrite_of_holder d hh, State.writesMutex_advance hc hm rfl rfl, rfl⟩

/-- Settles O38: RES[c] is read before the guard is tested, and the sum of words wraps. -/
theorem mutexWriteaddAddsToRes : Obligations.MutexWriteaddAddsToRes := by
  unfold Obligations.MutexWriteaddAddsToRes
  refine ⟨mutexWordRule_of_row Row.mutexWriteadd fun w m => .mutexWriteadd m (immField 32 w),
    fun s m d x hc hm hx hh => ?writes, fun s m d hx => raises_mutexWriteadd_uninit m d hx,
    fun s m d x hx hh => raises_guardNotHeld_of_needGuard (needRes_of_some hx _) hh⟩
  case writes =>
    have hsum : BitVec.ofNat 32 ((x.toNat + d.toNat) % 2 ^ 32) = x + d := by
      rw [← BitVec.toNat_add, BitVec.ofNat_toNat, BitVec.setWidth_eq]
    rw [hsum]
    exact ⟨_, exec_mutexWriteadd_of_holder d hx hh, State.writesMutex_advance hc hm rfl rfl, rfl⟩

end

section
/-! Contexts that hang (44_spinlock R229, R230): an attempt on a held mutex, what a step leaves of a RUNNING context that does not
take it and of a mutex whose holder does not take it, and the contexts below the top of ACTIVE. -/

namespace Sys2Proof.Machine

/-! ### An attempt on a held mutex -/

/-- The state after a failed attempt of context c on mutex m: HIST records it, and nothing else of the block changes
(44_spinlock R222). -/
def State.spun (s : State) (c m : Nat) : State := (s.focus c).record (.lockAttempt c m false)

/-- A context at MUTEX_LOCK of a held mutex spins: its step is a failed attempt, whoever holds the mutex. -/
theorem takeMove_eq_spun {s : State} {c : Nat} {m : BitVec 8} (hf : (s.mutex m.toNat).flag = true)
    (hs : s.standsAt c (.mutexLock m)) : takeMove (.ctx c) s = .next (s.spun c m.toNat) := by
  obtain ⟨-, w, hw, hi⟩ := hs
  have hend : ((s.spun c m.toNat).ctx c).pc ≠ ((s.spun c m.toNat).prog c).length := (State.pc_lt_of_fetch hw).ne
  have hexec : exec (.mutexLock m) (s.focus c) = .next (s.spun c m.toNat) := exec_mutexLock_of_held hf
  rw [takeMove, runContext_of_decode hw hi, hexec]
  exact congrArg Host.Outcome.next (State.endIfFinished_eq_self hend)

/-- The state after n failed attempts of context c on mutex m, one after another. -/
def State.spinning (s : State) (c m : Nat) : Nat → State
  | 0 => s
  | n + 1 => (s.spinning c m n).consumeChoice.spun c m

/-- Failed attempts change HIST and the schedule's own fields, however many they are. -/
theorem State.spinning_eq (s : State) (c m n : Nat) :
    s.spinning c m n =
      { s with
        hist := (s.spinning c m n).hist, cur := (s.spinning c m n).cur
        plan := (s.spinning c m n).plan, tick := (s.spinning c m n).tick } := by
  induction n with
  | zero => rfl
  | succ n ih =>
    rw [State.spinning, ih]
    rfl

/-- A block that is not halted may let a context at MUTEX_LOCK of a held mutex spin for ever. -/
theorem State.infiniteRun_spinning {s : State} {c : Nat} {m : BitVec 8} (hh : s.halted = false) (he : s.eligible c = true)
    (hf : (s.mutex m.toNat).flag = true) (hs : s.standsAt c (.mutexLock m)) :
    InfiniteRun s (s.spinning c m.toNat) (fun _ => .ctx c) where
  start := rfl
  trans n := by
    have hf' : ((s.spinning c m.toNat n).mutex m.toNat).flag = true := by
      rw [s.spinning_eq]
      exact hf
    have hs' : (s.spinning c m.toNat n).standsAt c (.mutexLock m) := by
      rw [s.spinning_eq]
      exact hs
    refine ⟨?halted, ?possible, takeMove_eq_spun (s := (s.spinning c m.toNat n).consumeChoice) hf' hs'⟩
    case halted =>
      rw [s.spinning_eq]
      exact hh
    case possible =>
      rw [s.spinning_eq]
      exact he

/-! ### A context that does not take the step -/

/-- Context c stands where it stood: at the same command of the same list, with the same status. -/
structure StaysAt (s t : State) (c : Nat) : Prop where
  params : t.params = s.params
  pc : (t.ctx c).pc = (s.ctx c).pc
  status : (t.ctx c).status = (s.ctx c).status

theorem StaysAt.of_ctx {s t : State} {c : Nat} (hp : t.params = s.params) (hc : t.ctx c = s.ctx c) : StaysAt s t c :=
  ⟨hp, by rw [hc], by rw [hc]⟩

theorem StaysAt.trans {s t u : State} {c : Nat} (h : StaysAt s t c) (h' : StaysAt t u c) : StaysAt s u c :=
  ⟨h'.params.trans h.params, h'.pc.trans h.pc, h'.status.trans h.status⟩

theorem State.standsAt.not_idle {s : State} {c : Nat} {i : Instr} (h : s.standsAt c i) : (s.ctx c).status ≠ .idle := by
  obtain ⟨hrun, -⟩ := h
  simp [hrun]

theorem StaysAt.standsAt {s t : State} {c : Nat} {i : Instr} (h : StaysAt s t c) (hs : s.standsAt c i) : t.standsAt c i := by
  rw [State.standsAt, State.fetch, State.prog, h.params, h.pc, h.status]
  exact hs

theorem Effect.staysAt {s t : State} {i : Instr} (h : Effect s i t) {c : Nat} (hc : c ≠ s.cur) : StaysAt s t c := by
  obtain e | ⟨-, e⟩ := h.ctx_other hc
  · exact .of_ctx h.params e
  · exact ⟨h.params, by rw [e], by rw [e]⟩

theorem State.ctx_endIfFinished_ne (s : State) {c c' : Nat} (h : c' ≠ c) : (s.endIfFinished c).ctx c' = s.ctx c' := by
  unfold State.endIfFinished
  split
  · exact s.ctx_endContext_ne h
  · rfl

theorem State.staysAt_endIfFinished (s : State) {c c' : Nat} (h : c' ≠ c) : StaysAt s (s.endIfFinished c) c' :=
  .of_ctx (s.endIfFinished_params c) (s.ctx_endIfFinished_ne h)

/-- No step of another agent moves a context on: a command writes PC and STATUS of its own context alone, and a dispatch starts,
under NESTED, only a context that is IDLE. -/
theorem MoveEffect.staysAt {s t : State} {mv : Move} (h : MoveEffect s mv t) {c : Nat} (hne : mv ≠ .ctx c)
    (hidle : s.params.sched = .nested → (s.ctx c).status ≠ .idle) : StaysAt s t c := by
  cases h with
  | command c' w i u _ _ he =>
    have hc : c ≠ c' := fun e => hne (e ▸ rfl)
    have hu : StaysAt (s.focus c') u c := (exec_effect he).staysAt hc
    have hfocus : StaysAt s (s.focus c') c := .of_ctx rfl rfl
    exact hfocus.trans (hu.trans (u.staysAt_endIfFinished hc))
  | started r ev h _ hn _ hi =>
    have hc : c ≠ h := by
      rintro rfl
      exact hidle hn hi
    have hu : StaysAt s ((s.record ev).pushHandler h) c := .of_ctx rfl (State.ctx_pushHandler_ne _ hc)
    exact hu.trans (State.staysAt_endIfFinished _ hc)
  | _ => exact ⟨rfl, rfl, rfl⟩

/-! ### A mutex whose holder does not take the step -/

/-- A command of a context that does not hold m leaves m alone while it is held (44_spinlock R220 to R226). -/
theorem Effect.mutex_of_held {s t : State} {i : Instr} (h : Effect s i t) {m : Nat} (hf : (s.mutex m).flag = true)
    (hh : (s.mutex m).holder ≠ some s.cur) : t.mutex m = s.mutex m := by
  have hfree {n : Nat} (hn : (s.mutex n).flag = false) : m ≠ n := by
    rintro rfl
    cases hn.symm.trans hf
  have hheld {n : Nat} (hn : (s.mutex n).holder = some s.cur) : m ≠ n := by
    rintro rfl
    exact hh hn
  cases h with
  | mutexNew n d hn => exact State.mutex_updMutex_ne s _ (hfree hn)
  | acquired n hn => exact State.mutex_updMutex_ne s _ (hfree hn)
  | released n hn => exact State.mutex_updMutex_ne s _ (hheld hn)
  | wrotePayload _ n d _ hn => exact State.mutex_updMutex_ne s _ (hheld hn)
  | _ => rfl

theorem State.mutex_endIfFinished_of_holder_ne {s : State} {c m : Nat} (h : (s.mutex m).holder ≠ some c) :
    (s.endIfFinished c).mutex m = s.mutex m := by
  unfold State.endIfFinished
  split
  · rw [State.mutex_endContext, if_neg h]
  · rfl

/-- A held mutex changes in a step of its holder only, if the holder is RUNNING. -/
theorem MoveEffect.mutex_of_held {s t : State} {mv : Move} (h : MoveEffect s mv t) {a m : Nat}
    (hf : (s.mutex m).flag = true) (hh : (s.mutex m).holder = some a) (hrun : (s.ctx a).status = .running)
    (hne : mv ≠ .ctx a) : t.mutex m = s.mutex m := by
  cases h with
  | command c w i u _ _ he =>
    have hc : (s.mutex m).holder ≠ some c := by
      rintro e
      cases hh.symm.trans e
      exact hne rfl
    have hu : u.mutex m = s.mutex m := (exec_effect he).mutex_of_held hf hc
    rw [State.mutex_endIfFinished_of_holder_ne (hu ▸ hc), hu]
  | started r ev h _ _ _ hi =>
    have hc : (((s.record ev).pushHandler h).mutex m).holder ≠ some h := by
      rintro e
      cases hh.symm.trans e
      cases hi.symm.trans hrun
    exact State.mutex_endIfFinished_of_holder_ne hc
  | _ => rfl

/-! ### ACTIVE through a step (10_state R38) -/

theorem State.active_endIfFinished (s : State) (c : Nat) :
    (s.endIfFinished c).active = s.active ∨ (s.endIfFinished c).active = s.active.dropLast := by
  unfold State.endIfFinished
  split
  · rw [State.endContext_active]
    split
    · exact .inr rfl
    · exact .inl rfl
  · exact .inl rfl

/-- A step leaves ACTIVE, or pops its top in a step of a context, or pushes a context. -/
theorem MoveEffect.active_cases {s t : State} {mv : Move} (h : MoveEffect s mv t) :
    t.active = s.active ∨ ((∃ c, mv = .ctx c) ∧ t.active = s.active.dropLast) ∨ ∃ h, t.active = s.active ++ [h] := by
  cases h with
  | command c w i u _ _ he =>
    have hu : u.active = s.active := (exec_effect he).active
    obtain e | e := u.active_endIfFinished c
    · exact .inl (e.trans hu)
    · exact .inr (.inl ⟨⟨c, rfl⟩, e.trans (congrArg List.dropLast hu)⟩)
  | started r ev h =>
    obtain e | e := ((s.record ev).pushHandler h).active_endIfFinished h
    · exact .inr (.inr ⟨h, e⟩)
    · exact .inl (e.trans List.dropLast_concat)
  | _ => exact .inl rfl

/-- Context h stands on ACTIVE above context a (10_state R38). -/
def State.ActiveAbove (s : State) (a h : Nat) : Prop := ∃ below mid above, s.active = below ++ a :: mid ++ h :: above

/-- The context below is not the top, nor the one above it. -/
theorem State.ActiveAbove.ne {s : State} {a h : Nat} (hs : s.ActiveAbove a h) (hnd : s.active.Nodup) :
    a ≠ h ∧ s.active.getLast? ≠ some a := by
  obtain ⟨below, mid, above, hact⟩ := hs
  have hsplit : s.active = (below ++ [a]) ++ (mid ++ h :: above) := by simp [hact]
  rw [hsplit] at hnd ⊢
  have hnot : a ∉ mid ++ h :: above := List.disjoint_of_nodup_append hnd (by simp)
  refine ⟨fun e => hnot (by simp [e]), fun htop => hnot ?_⟩
  rw [List.getLast?_append_of_ne_nil _ (by simp)] at htop
  exact List.mem_of_getLast? htop

/-- Both stay on ACTIVE in a step of another context that is the top, and of every other agent. -/
theorem MoveEffect.activeAbove {s t : State} {mv : Move} (hm : MoveEffect s mv t) {a h : Nat} (hs : s.ActiveAbove a h)
    (htop : ∀ c, mv = .ctx c → c ≠ h ∧ s.active.getLast? = some c) : t.ActiveAbove a h := by
  obtain ⟨below, mid, above, hact⟩ := hs
  obtain e | ⟨⟨c, rfl⟩, e⟩ | ⟨k, e⟩ := hm.active_cases
  · exact ⟨below, mid, above, e.trans hact⟩
  · obtain ⟨hch, hlast⟩ := htop c rfl
    have hne : above ≠ [] := by
      rintro rfl
      rw [hact, List.getLast?_concat] at hlast
      exact hch (Option.some.inj hlast).symm
    refine ⟨below, mid, above.dropLast, ?_⟩
    rw [e, hact, List.dropLast_append_of_ne_nil (List.cons_ne_nil h above), List.dropLast_cons_of_ne_nil hne]
  · exact ⟨below, mid, above ++ [k], by rw [e, hact, List.append_assoc, List.cons_append]⟩

end Sys2Proof.Machine

open Sys2Proof Sys2Proof.Machine

/-- Settles O52: the context's own step is a failed attempt, and no other step writes its mutex, its PC or its STATUS. -/
theorem reentrantLockHangs : Obligations.ReentrantLockHangs := by
  unfold Obligations.ReentrantLockHangs
  rintro s t c m ⟨hf, hh, hs⟩ hstep
  obtain ⟨mv, -, -, hmv⟩ := step_trans hstep
  by_cases hc : mv = .ctx c
  · subst hc
    cases (takeMove_eq_spun (s := s.consumeChoice) hf hs).symm.trans hmv
    exact ⟨⟨hf, hh, hs⟩, rfl⟩
  · have he := takeMove_effect hmv
    have hstay : StaysAt s.consumeChoice t c := he.staysAt hc fun _ => hs.not_idle
    have hmutex : t.mutex m.toNat = s.mutex m.toNat := he.mutex_of_held hf hh hs.1 hc
    exact ⟨⟨hmutex ▸ hf, hmutex ▸ hh, hstay.standsAt hs⟩, hstay.pc⟩

/-- Settles O53: the run of failed attempts is infinite, and fair because there is no other context. -/
theorem reentrantLockDiverges : Obligations.ReentrantLockDiverges := by
  unfold Obligations.ReentrantLockDiverges
  rintro s m hinv hh hi hone ⟨hf, -, hs⟩
  have hlen : s.ctxs.length = 1 := hinv.shape.1.trans hone
  have he : ∀ c, s.eligible c = true ↔ c = 0 ∧ (s.ctx c).status = .running := fun c => by simp [State.eligible, hi, hlen]
  refine ⟨_, _, State.infiniteRun_spinning hh ((he 0).2 ⟨rfl, hs.1⟩) hf hs, fun c n hc n' => ⟨n', le_rfl, ?fair⟩⟩
  case fair =>
    have hcn : s.eligible c = true := by
      have helig := hc n le_rfl
      rw [s.spinning_eq] at helig
      exact helig
    rw [((he c).1 hcn).1]

/-- Settles O54: the step is a failed attempt of the handler, or one of a context above it or of another agent; the holder is not
the top of ACTIVE and has no step. -/
theorem handlerDeadlockHangs : Obligations.HandlerDeadlockHangs := by
  unfold Obligations.HandlerDeadlockHangs
  rintro s t a h m hinv ⟨hn, hf, hh, hs, habove⟩ hstep
  obtain ⟨mv, -, hp, hmv⟩ := step_trans hstep
  obtain ⟨hnd, -⟩ := hinv.active.2 hn
  obtain ⟨hah, hbelow⟩ := State.ActiveAbove.ne habove hnd
  by_cases hc : mv = .ctx h
  · subst hc
    cases (takeMove_eq_spun (s := s.consumeChoice) hf hs).symm.trans hmv
    exact ⟨⟨hn, hf, hh, hs, habove⟩, rfl, rfl⟩
  · have he := takeMove_effect hmv
    have hrun : (s.ctx a).status = .running := by
      have hm : m.toNat < s.mutexes.length := by
        by_contra hle
        simp [s.mutex_of_le (Nat.le_of_not_lt hle), Mutex.absent] at hf
      obtain ⟨-, hhold⟩ := hinv.guards m.toNat (hinv.shape.2 ▸ hm)
      exact (hhold a hh).2
    have htop : ∀ c, mv = .ctx c → s.active.getLast? = some c := by
      rintro c rfl
      exact (hinv.eligible_cases hp).2.2 hn
    have ha : mv ≠ .ctx a := fun e => hbelow (htop a e)
    have hstaya : StaysAt s.consumeChoice t a := he.staysAt ha fun _ => by simp [hrun]
    have hstayh : StaysAt s.consumeChoice t h := he.staysAt hc fun _ => hs.not_idle
    have hmutex : t.mutex m.toNat = s.mutex m.toNat := he.mutex_of_held hf hh hrun ha
    have hact : t.ActiveAbove a h := he.activeAbove habove fun c e => ⟨fun e' => hc (e' ▸ e), htop c e⟩
    exact ⟨⟨hstaya.params ▸ hn, hmutex ▸ hf, hmutex ▸ hh, hstayh.standsAt hs, hact⟩, hstaya.pc, hstayh.pc⟩

end

section
/-! Mutual exclusion (44_spinlock R231): the command lists of the contending contexts, what one command of CRITICAL_ADD m, 1 does
to the count of completed increments, and the invariant of the contention. -/

namespace Sys2Proof.Machine

/-! ### The command lists (30_encoding R109) -/

/-- The commands of CRITICAL_ADD m, 1 (30_encoding R109). -/
def criticalAdd (m : BitVec 8) : List Instr := [.mutexLock m, .mutexRead m, .mutexWriteadd m 1, .mutexUnlock m]

theorem criticalAddWords_eq (m : BitVec 8) : criticalAddWords m = (criticalAdd m).map encode := rfl

/-- Position j of k copies of a list is its position j modulo the length. -/
theorem getElem?_flatten_replicate {α : Type} (l : List α) (k : Nat) {j : Nat} (hj : j < k * l.length) :
    (List.replicate k l).flatten[j]? = l[j % l.length]? := by
  induction k generalizing j with
  | zero => omega
  | succ k ih =>
    rw [List.replicate_succ, List.flatten_cons]
    by_cases hlt : j < l.length
    · rw [List.getElem?_append_left hlt, Nat.mod_eq_of_lt hlt]
    · have hle : l.length ≤ j := Nat.le_of_not_lt hlt
      rw [List.getElem?_append_right hle, ih (by rw [Nat.succ_mul] at hj; omega), Nat.mod_eq_sub_mod hle]

theorem Params.prog_eq (p : Params) (c : Nat) : p.prog c = ((p.contexts[c]?).map CtxParams.prog).getD [] := by
  unfold Params.prog
  cases p.contexts[c]? <;> rfl

section
variable {p : Params} {m : BitVec 8} {ks : List Nat}

theorem contention.nCtx (h : contention p m ks) : p.nCtx = ks.length := by
  simpa [Params.nCtx] using congrArg List.length h.2

/-- The list of context c, an index that is no context included. -/
theorem contention.prog (h : contention p m ks) (c : Nat) :
    p.prog c = (List.replicate (ks.getD c 0) (criticalAddWords m)).flatten := by
  obtain ⟨-, hlists⟩ := h
  rw [Params.prog_eq, ← List.getElem?_map, hlists, List.getElem?_map, List.getD_eq_getElem?_getD]
  cases ks[c]? <;> rfl

theorem contention.length_prog (h : contention p m ks) (c : Nat) : (p.prog c).length = ks.getD c 0 * 4 := by
  rw [h.prog, List.length_flatten, List.map_replicate, List.sum_replicate]
  rfl

/-- The word at position j is that of the command of CRITICAL_ADD m, 1 at j modulo 4, and decodes to it. -/
theorem contention.decode (h : contention p m ks) (hm : m.toNat < p.nMutex) {c j : Nat} {w : Word} {i : Instr}
    (hw : (p.prog c)[j]? = some w) (hi : decode p.nMutex w = .ok i) : (criticalAdd m)[j % 4]? = some i := by
  have hj : j < ks.getD c 0 * 4 := h.length_prog c ▸ (List.getElem?_eq_some_iff.1 hw).1
  rw [h.prog, getElem?_flatten_replicate _ _ hj, criticalAddWords_eq, List.getElem?_map] at hw
  obtain ⟨i', hi', rfl⟩ := Option.map_eq_some_iff.1 hw
  have hwf : i'.wf p.nMutex = true := by
    have hmem : i' ∈ criticalAdd m := List.mem_of_getElem? hi'
    simp only [criticalAdd, List.mem_cons, List.not_mem_nil, or_false] at hmem
    rcases hmem with rfl | rfl | rfl | rfl <;> exact decide_eq_true hm
  rw [decode_encode hwf] at hi
  cases hi
  exact hi'

end

/-! ### The count of completed increments -/

/-- How often a context with PC[c] = pc has written its increment: the third command of each CRITICAL_ADD m, 1 does it. -/
def incrementsAt (pc : Nat) : Nat := (pc + 1) / 4

/-- A context holds m exactly inside its critical section; after MUTEX_READ its RES[c] is the payload; and the payload counts the
increments of all contexts, modulo 2^32 (44_spinlock R231). An index that is no context reads as one that stands at 0. -/
structure State.Counting (s : State) (m n : Nat) : Prop where
  guard : ∀ c, (s.mutex m).holder = some c ↔ (s.ctx c).pc % 4 ≠ 0
  read : ∀ c, (s.ctx c).pc % 4 = 2 → (s.ctx c).res = some (s.mutex m).payload
  total : (s.mutex m).payload = BitVec.ofNat 32 (∑ c ∈ Finset.range n, incrementsAt (s.ctx c).pc)

/-- What `Counting` reads of a state. -/
theorem State.Counting.congr {s t : State} {m n : Nat} (h : s.Counting m n) (hm : t.mutex m = s.mutex m)
    (hpc : ∀ c, (t.ctx c).pc = (s.ctx c).pc := by intro; rfl) (hres : ∀ c, (t.ctx c).res = (s.ctx c).res := by intro; rfl) :
    t.Counting m n := by
  constructor
  · simpa only [hm, hpc] using h.guard
  · simpa only [hm, hpc, hres] using h.read
  · simpa only [hm, hpc] using h.total

/-- A completed command of CRITICAL_ADD m, 1: PC[c] of its context is one further, and what it does to m and RES[c] depends on
where the context stands in the critical section. -/
structure CriticalStep (s t : State) (m : Nat) : Prop where
  pc : (t.ctx s.cur).pc = s.me.pc + 1
  others : ∀ c, c ≠ s.cur → t.ctx c = s.ctx c
  holds : (t.mutex m).holder = some s.cur ↔ (s.me.pc + 1) % 4 ≠ 0
  otherHolds : ∀ c, c ≠ s.cur → ((t.mutex m).holder = some c ↔ (s.mutex m).holder = some c)
  read : s.me.pc % 4 = 1 → (t.ctx s.cur).res = some (t.mutex m).payload
  payload : (t.mutex m).payload = (s.mutex m).payload + BitVec.ofNat 32 (if s.me.pc % 4 = 2 then 1 else 0)

/-- A sum over the contexts when one of them counts d more. -/
theorem sum_range_eq_add {n c d : Nat} {f g : Nat → Nat} (hc : c < n) (hd : g c = f c + d)
    (hne : ∀ c', c' ≠ c → g c' = f c') :
    ∑ k ∈ Finset.range n, g k = ∑ k ∈ Finset.range n, f k + d := by
  have hmem : c ∈ Finset.range n := Finset.mem_range.2 hc
  rw [← Finset.add_sum_erase _ g hmem, ← Finset.add_sum_erase _ f hmem, hd,
    Finset.sum_congr (g := f) rfl fun k hk => hne k (Finset.ne_of_mem_erase hk)]
  exact Nat.add_right_comm _ _ _

theorem incrementsAt_succ (pc : Nat) : incrementsAt (pc + 1) = incrementsAt pc + if pc % 4 = 2 then 1 else 0 := by
  unfold incrementsAt
  split <;> omega

theorem State.Counting.step {s t : State} {m n : Nat} (h : s.Counting m n) (hn : s.cur < n) (ht : CriticalStep s t m) :
    t.Counting m n := by
  constructor
  case guard =>
    intro c
    by_cases hc : c = s.cur
    · rw [hc, ht.pc]
      exact ht.holds
    · rw [ht.others c hc, ht.otherHolds c hc]
      exact h.guard c
  case read =>
    intro c hpc
    by_cases hc : c = s.cur
    · subst hc
      rw [ht.pc] at hpc
      exact ht.read (by omega)
    · -- Context c is inside its critical section, so the executing one is not, and the payload is as before.
      rw [ht.others c hc] at hpc ⊢
      have hholder : (s.mutex m).holder = some c := (h.guard c).2 (by omega)
      have hout : ¬ s.me.pc % 4 ≠ 0 := fun hin => hc (Option.some.inj (hholder.symm.trans ((h.guard s.cur).2 hin)))
      rw [h.read c hpc, ht.payload, if_neg (by omega)]
      exact congrArg some (BitVec.add_zero _).symm
  case total =>
    have hsum := sum_range_eq_add (f := fun k => incrementsAt (s.ctx k).pc) (g := fun k => incrementsAt (t.ctx k).pc) hn
      ((congrArg incrementsAt ht.pc).trans (incrementsAt_succ _)) fun c hc => congrArg (incrementsAt ·.pc) (ht.others c hc)
    rw [ht.payload, h.total, ← BitVec.ofNat_add, hsum]

/-! ### The commands of CRITICAL_ADD m, 1 -/

section
variable {s t : State} {m : BitVec 8}

/-- The three commands that write the mutex: MUTEX_READ, at position 1, is the other one. -/
theorem WritesMutex.criticalStep {x : Mutex} (h : WritesMutex s t s.me m.toNat x) (hread : s.me.pc % 4 ≠ 1)
    (hholds : x.holder = some s.cur ↔ (s.me.pc + 1) % 4 ≠ 0)
    (hother : ∀ c', c' ≠ s.cur → (x.holder = some c' ↔ (s.mutex m.toNat).holder = some c'))
    (hpay : x.payload = (s.mutex m.toNat).payload + BitVec.ofNat 32 (if s.me.pc % 4 = 2 then 1 else 0)) :
    CriticalStep s t m.toNat := by
  obtain ⟨hme, rfl, -, hblock, -, -, hothers⟩ := h
  rw [State.me, hblock.cur] at hme
  exact ⟨congrArg Ctx.pc hme, hothers, hholds, hother, fun e => absurd e hread, hpay⟩

theorem criticalStep_mutexLock (hm : m.toNat < s.mutexes.length) (hc : s.curOk) (hr : s.me.pc % 4 = 0)
    (hf : (s.mutex m.toNat).flag = false) (hfree : (s.mutex m.toNat).holder = none) (he : exec (.mutexLock m) s = .next t) :
    CriticalStep s t m.toNat := by
  cases (exec_mutexLock_of_free hf).symm.trans he
  refine (State.writesMutex_advance hc hm rfl rfl).criticalStep (by omega) (by simp; omega) (fun c' hne => ?_) (by simp [hr])
  simp [hfree, hne.symm]

theorem criticalStep_mutexRead (hc : s.curOk) (hr : s.me.pc % 4 = 1) (hh : (s.mutex m.toNat).holder = some s.cur)
    (he : exec (.mutexRead m) s = .next t) : CriticalStep s t m.toNat := by
  cases (exec_mutexRead_of_holder hh).symm.trans he
  obtain ⟨hme, hown⟩ := State.writesOwn_updMe_advance hc (f := fun k => { k with res := some (s.mutex m.toNat).payload }) rfl
  exact ⟨congrArg Ctx.pc hme, hown.others.2, iff_of_true hh (by omega), fun _ _ => Iff.rfl, fun _ => congrArg Ctx.res hme,
    by simp [hr]⟩

theorem criticalStep_mutexWriteadd (hm : m.toNat < s.mutexes.length) (hc : s.curOk) (hr : s.me.pc % 4 = 2)
    (hh : (s.mutex m.toNat).holder = some s.cur) (hres : s.me.res = some (s.mutex m.toNat).payload)
    (he : exec (.mutexWriteadd m 1) s = .next t) : CriticalStep s t m.toNat := by
  cases (exec_mutexWriteadd_of_holder 1 hres hh).symm.trans he
  exact (State.writesMutex_advance hc hm rfl rfl).criticalStep (by omega) (iff_of_true hh (by omega)) (fun _ _ => Iff.rfl)
    (by simp [hr])

theorem criticalStep_mutexUnlock (hm : m.toNat < s.mutexes.length) (hc : s.curOk) (hr : s.me.pc % 4 = 3)
    (hh : (s.mutex m.toNat).holder = some s.cur) (he : exec (.mutexUnlock m) s = .next t) :
    CriticalStep s t m.toNat := by
  cases (exec_mutexUnlock_of_holder hh).symm.trans he
  refine (State.writesMutex_advance hc hm rfl rfl).criticalStep (by omega) (iff_of_false nofun (by omega)) (fun c' hne => ?_)
    (by simp [Mutex.released, hr])
  simp [Mutex.released, hh, hne.symm]

/-- A completed command of CRITICAL_ADD m, 1, and an attempt that fails, keep the count. -/
theorem State.Counting.exec {n : Nat} (h : s.Counting m.toNat n) (hpair : (s.mutex m.toNat).Paired)
    (hm : m.toNat < s.mutexes.length) (hc : s.curOk) (hn : s.cur < n) {i : Instr}
    (hi : (criticalAdd m)[s.me.pc % 4]? = some i) (he : exec i s = .next t) : t.Counting m.toNat n := by
  have hguard : (s.mutex m.toNat).holder = some s.cur ↔ s.me.pc % 4 ≠ 0 := h.guard s.cur
  have hlt : s.me.pc % 4 < 4 := Nat.mod_lt _ (by decide)
  generalize hr : s.me.pc % 4 = r at hi hguard hlt
  -- The four positions in the list: MUTEX_LOCK, MUTEX_READ, MUTEX_WRITEADD and MUTEX_UNLOCK.
  interval_cases r <;> cases hi
  · cases hf : (s.mutex m.toNat).flag with
    | true =>
      cases (exec_mutexLock_of_held hf).symm.trans he
      exact h.congr rfl
    | false =>
      have hfree : (s.mutex m.toNat).holder = none := by simpa [Mutex.Paired, hf] using hpair
      exact h.step hn (criticalStep_mutexLock hm hc hr hf hfree he)
  · exact h.step hn (criticalStep_mutexRead hc hr (hguard.2 (by decide)) he)
  · exact h.step hn (criticalStep_mutexWriteadd hm hc hr (hguard.2 (by decide)) (h.read s.cur hr) he)
  · exact h.step hn (criticalStep_mutexUnlock hm hc hr (hguard.2 (by decide)) he)

end

/-! ### The contexts under INTERLEAVED -/

theorem State.eligible_iff_of_interleaved {s : State} (hi : s.params.sched = .interleaved) (c : Nat) :
    s.eligible c = true ↔ c < s.ctxs.length ∧ (s.ctx c).status = .running := by
  simp [State.eligible, hi]

theorem State.status_of_completed {s : State} (hi : s.params.sched = .interleaved) (h : s.outcome = some .completed) {c : Nat}
    (hc : c < s.ctxs.length) : (s.ctx c).status = .done := by
  have hcomp : s.completed = true := by
    by_contra hn
    rw [State.outcome, if_neg hn] at h
    split_ifs at h <;> cases h
  simp only [State.completed, hi, Bool.and_eq_true, List.all_eq_true, decide_eq_true_eq] at hcomp
  have hmem : s.ctx c ∈ s.ctxs := by simp [State.ctx, hc]
  exact hcomp.2 _ hmem

/-- Every context that is DONE has reached the end of its list (10_state R23). -/
def State.DoneAtEnd (s : State) : Prop := ∀ c, (s.ctx c).status = .done → (s.ctx c).pc = (s.prog c).length

/-- Under INTERLEAVED the end of a context writes its STATUS and releases its guards, and leaves its other registers. -/
theorem State.ctx_endIfFinished_of_interleaved {s : State} (hi : s.params.sched = .interleaved) (c c' : Nat) :
    (s.endIfFinished c).ctx c' = s.ctx c' ∨
      ((s.ctx c).pc = (s.prog c).length ∧ c' = c ∧ (s.endIfFinished c).ctx c' = { s.ctx c' with status := .done }) := by
  by_cases hend : (s.ctx c).pc = (s.prog c).length
  · rw [State.endIfFinished_eq_endContext hend, State.ctx_endContext]
    split
    · rename_i hc
      exact .inr ⟨hend, hc.1.symm, by simp [Ctx.ended, hi]⟩
    · exact .inl rfl
  · rw [State.endIfFinished_eq_self hend]
    exact .inl rfl

/-! ### The invariant of the contention -/

/-- The invariant of a run in which every context adds 1 under m some number of times (44_spinlock R231). -/
structure State.Contending (s : State) (p : Params) (m : Nat) : Prop where
  params : s.params = p
  shape : s.ShapeOk
  paired : s.GuardsPaired
  done : s.DoneAtEnd
  counting : s.Counting m p.nCtx

/-! ### It holds after reset (70_reset R280) -/

theorem State.ctx_resetOf (p : Params) (c : Nat) :
    (State.resetOf p).ctx c = Ctx.atReset p c ∨ (State.resetOf p).ctx c = Ctx.absent := by
  by_cases hc : c < p.nCtx
  · exact .inl (by simp [State.ctx, State.resetOf, hc])
  · exact .inr (by simp [State.ctx, State.resetOf, hc])

theorem State.mutex_resetOf (p : Params) (m : Nat) :
    (State.resetOf p).mutex m = ((p.mutexInit[m]?).map Mutex.atReset).getD Mutex.absent := by
  simp [State.mutex, State.resetOf, List.getD_eq_getElem?_getD]

/-- Every mutex is free after reset, and so reads an index that is none. -/
theorem State.mutex_resetOf_free (p : Params) (m : Nat) :
    ((State.resetOf p).mutex m).flag = false ∧ ((State.resetOf p).mutex m).holder = none := by
  rw [State.mutex_resetOf]
  cases p.mutexInit[m]? <;> exact ⟨rfl, rfl⟩

theorem State.doneAtEnd_resetOf {p : Params} (hi : p.sched = .interleaved) : (State.resetOf p).DoneAtEnd := by
  intro c hd
  obtain e | e := State.ctx_resetOf p c
  · rw [e] at hd ⊢
    have hnil : p.prog c = [] := by simpa [Ctx.atReset, Status.atReset, hi] using hd
    exact (congrArg List.length hnil).symm
  · rw [e] at hd
    cases hd

theorem State.contending_resetOf {p : Params} {m : Nat} (hi : p.sched = .interleaved) (hm : p.mutexInit[m]? = some 0) :
    (State.resetOf p).Contending p m := by
  have hpc (c : Nat) : ((State.resetOf p).ctx c).pc = 0 := by
    obtain e | e := State.ctx_resetOf p c <;> rw [e] <;> rfl
  constructor
  case params => rfl
  case shape => simp [State.ShapeOk, State.resetOf, Params.nMutex]
  case paired => exact fun m => .of_free (State.mutex_resetOf_free p m).1 (State.mutex_resetOf_free p m).2
  case done => exact State.doneAtEnd_resetOf hi
  case counting =>
    constructor
    · intro c
      simp [hpc, State.mutex_resetOf_free p m]
    · intro c h2
      rw [hpc] at h2
      cases h2
    · simp [hpc, incrementsAt, State.mutex_resetOf, hm, Mutex.atReset]

/-! ### Every step keeps it -/

theorem State.shapeOk_endIfFinished {s : State} (h : s.ShapeOk) (c : Nat) : (s.endIfFinished c).ShapeOk := by
  unfold State.endIfFinished
  split
  · simpa [State.ShapeOk] using h
  · exact h

theorem MoveEffect.shapeOk {s t : State} {mv : Move} (h : MoveEffect s mv t) (hs : s.ShapeOk) : t.ShapeOk := by
  cases h with
  | command c w i u _ _ he =>
    have hu : u.ShapeOk := (exec_effect he).shapeOk hs
    exact State.shapeOk_endIfFinished hu c
  | started r ev h =>
    have hu : ((s.record ev).pushHandler h).ShapeOk := ⟨(State.ctxs_length_updCtx _ _ _).trans hs.1, hs.2⟩
    exact State.shapeOk_endIfFinished hu h
  | _ => exact hs

/-- Under INTERLEAVED a context becomes DONE only by reaching the end of its list. -/
theorem MoveEffect.doneAtEnd {s t : State} {mv : Move} (h : MoveEffect s mv t) (hi : s.params.sched = .interleaved)
    (hrun : ∀ c, mv = .ctx c → (s.ctx c).status = .running) (hs : s.DoneAtEnd) : t.DoneAtEnd := by
  intro c hd
  by_cases hc : mv = .ctx c
  · subst hc
    have hst := hrun c rfl
    cases h with
    | illegal => exact hs c hd
    | command _ w i u _ _ he =>
      have hu : u.params = s.params := (exec_effect he).params
      have hust : (u.ctx c).status = .running := ((exec_effect he).status c).trans hst
      obtain e | ⟨hend, -, e⟩ := u.ctx_endIfFinished_of_interleaved (hu ▸ hi) c c
      · rw [e, hust] at hd
        cases hd
      · rw [e, State.prog, State.endIfFinished_params]
        exact hend
  · have hstay := h.staysAt hc fun hn => by cases hi.symm.trans hn
    rw [hstay.status] at hd
    rw [hstay.pc, State.prog, hstay.params]
    exact hs c hd

/-- The end of a context that is outside its critical section keeps the count. -/
theorem State.Counting.endIfFinished {s : State} {m n : Nat} (h : s.Counting m n) (hi : s.params.sched = .interleaved) {c : Nat}
    (hlen : (s.prog c).length % 4 = 0) : (s.endIfFinished c).Counting m n := by
  have hkeep {α : Type} (g : Ctx → α) (hg : ∀ k, g { k with status := .done } = g k) (c' : Nat) :
      g ((s.endIfFinished c).ctx c') = g (s.ctx c') := by
    obtain e | ⟨-, -, e⟩ := s.ctx_endIfFinished_of_interleaved hi c c' <;> rw [e]
    exact hg _
  refine h.congr ?mutex (hkeep Ctx.pc fun _ => rfl) (hkeep Ctx.res fun _ => rfl)
  case mutex =>
    by_cases hend : (s.ctx c).pc = (s.prog c).length
    · exact State.mutex_endIfFinished_of_holder_ne fun hh => (h.guard c).1 hh (hend ▸ hlen)
    · rw [State.endIfFinished_eq_self hend]

section
variable {s t : State} {p : Params} {m : BitVec 8} {ks : List Nat}

/-- Only the commands of the contexts, which are those of CRITICAL_ADD m, 1, write what the count reads. -/
theorem MoveEffect.counting {mv : Move} (h : MoveEffect s mv t) (hs : s.Contending p m.toNat) (hp : contention p m ks)
    (hm : m.toNat < p.nMutex) (hposs : s.possible mv = true) : t.Counting m.toNat p.nCtx := by
  have hi : s.params.sched = .interleaved := hs.params ▸ hp.1
  cases h with
  | command c w i u hw hdec he =>
    obtain ⟨hc, -⟩ := (State.eligible_iff_of_interleaved hi c).1 hposs
    rw [State.fetch, State.prog, hs.params] at hw
    rw [hs.params] at hdec
    have hfocus : (s.focus c).Counting m.toNat p.nCtx := hs.counting.congr rfl
    have hu : u.Counting m.toNat p.nCtx :=
      hfocus.exec (hs.paired m.toNat) (by rw [State.focus_mutexes, hs.shape.2, hs.params]; exact hm) hc
        (by rw [State.focus_cur, ← hs.params, ← hs.shape.1]; exact hc) (hp.decode hm hw hdec) he
    have hup : u.params = p := ((exec_effect he).params).trans hs.params
    exact hu.endIfFinished (hup ▸ hp.1) (by rw [State.prog, hup, hp.length_prog]; omega)
  | started r ev h _ hn => cases hi.symm.trans hn
  | _ => exact hs.counting.congr rfl

theorem Trans.contending {mv : Move} (h : Trans mv s t) (hs : s.Contending p m.toNat) (hp : contention p m ks)
    (hm : m.toNat < p.nMutex) : t.Contending p m.toNat := by
  obtain ⟨-, hposs, hmv⟩ := h
  have he := takeMove_effect hmv
  have hi : s.params.sched = .interleaved := hs.params ▸ hp.1
  have hrun (c : Nat) (hc : mv = .ctx c) : (s.ctx c).status = .running := by
    subst hc
    exact ((State.eligible_iff_of_interleaved hi c).1 hposs).2
  have hs' : s.consumeChoice.Contending p m.toNat := ⟨hs.params, hs.shape, hs.paired, hs.done, hs.counting.congr rfl⟩
  exact ⟨he.params.trans hs.params, he.shapeOk hs.shape, he.guardsPaired hs.paired, he.doneAtEnd hi hrun hs.done,
    he.counting hs' hp hm hposs⟩

theorem Reaches.contending (h : Reaches s t) (hs : s.Contending p m.toNat) (hp : contention p m ks) (hm : m.toNat < p.nMutex) :
    t.Contending p m.toNat := by
  induction h with
  | refl => exact hs
  | step _ htrans ih => exact htrans.contending ih hp hm

end

theorem sum_range_getD (ks : List Nat) : ∑ c ∈ Finset.range ks.length, ks.getD c 0 = ks.sum := by
  rw [Finset.sum_range, ← Fin.sum_univ_getElem]
  simp

end Sys2Proof.Machine

open Sys2Proof Sys2Proof.Machine

/-- Settles O55: the payload counts the completed increments in every state the block reaches, and at the end of its list a
context has completed all of its own. -/
theorem contendedIncrementsAllCount : Obligations.ContendedIncrementsAllCount := by
  unfold Obligations.ContendedIncrementsAllCount
  intro p m ks s _ hp hinit hreach hout
  have hm : m.toNat < p.nMutex := (List.getElem?_eq_some_iff.1 hinit).1
  obtain ⟨rfl, hshape, -, hdone, hcount⟩ := hreach.contending (State.contending_resetOf hp.1 hinit) hp hm
  have hincr : ∀ c ∈ Finset.range ks.length, incrementsAt (s.ctx c).pc = ks.getD c 0 := by
    intro c hc
    have hlt : c < s.ctxs.length := by
      rw [hshape.1, hp.nCtx]
      exact Finset.mem_range.1 hc
    have hst : (s.ctx c).status = .done := State.status_of_completed hp.1 hout hlt
    rw [hdone c hst, State.prog, hp.length_prog, incrementsAt]
    omega
  rw [hcount.total, hp.nCtx, Finset.sum_congr rfl hincr, sum_range_getD]

end

section
/-! The steps that do not happen, and the faults a step raises (60_exceptions R251, R252; 70_reset R283, R284). -/

namespace Sys2Proof.Machine

theorem State.completed_cases {s : State} (h : s.completed = true) : s.fault = none ∧ s.refused = false := by
  simp only [State.completed, Bool.and_eq_true, Option.isNone_iff_eq_none, Bool.not_eq_true'] at h
  exact h.1

@[simp] theorem State.endIfFinished_fault (s : State) (c : Nat) : (s.endIfFinished c).fault = s.fault := by
  unfold State.endIfFinished
  split
  · exact s.endContext_fault c
  · rfl

/-- A command leaves FAULT, or raises a fault of its context and does nothing else. -/
theorem Effect.fault_cases {s t : State} {i : Instr} (h : Effect s i t) :
    t.fault = s.fault ∨ ∃ code info, code ≠ .dispatch ∧ t = s.raise code info := by
  cases h with
  | raised _ code info hc => exact .inr ⟨code, info, hc, rfl⟩
  | _ => exact .inl rfl

/-- A context that raised a fault still stands at a command, so it does not end (60_exceptions R252). -/
theorem State.endIfFinished_raise {s : State} {c : Nat} {w : Word} (hw : s.fetch c = some w) (code : FaultCode)
    (info : BitVec 32) : ((s.focus c).raise code info).endIfFinished c = (s.focus c).raise code info :=
  State.endIfFinished_eq_self (Nat.ne_of_lt (State.pc_lt_of_fetch hw))

/-- A step leaves FAULT, or raises a fault of the stepping context or of the dispatch agent and does nothing else. -/
theorem MoveEffect.fault_cases {s t : State} {m : Move} (h : MoveEffect s m t) :
    t.fault = s.fault ∨
    (∃ c code info, s.fetch c ≠ none ∧ code ≠ .dispatch ∧ t = (s.focus c).raise code info) ∨
    ∃ r sub, t = s.raiseDispatch sub r := by
  cases h with
  | illegal c w x hw => exact .inr (.inl ⟨c, .illegal, 0, by simp [hw], by simp, rfl⟩)
  | command c w i t hw _ he =>
    obtain ht | ⟨code, info, hc, rfl⟩ := (exec_effect he).fault_cases
    · exact .inl ((t.endIfFinished_fault c).trans ht)
    · exact .inr (.inl ⟨c, code, info, by simp [hw], hc, State.endIfFinished_raise hw code info⟩)
  | failed r sub => exact .inr (.inr ⟨r, sub, rfl⟩)
  | started r ev h => exact .inl (State.endIfFinished_fault _ h)
  | _ => exact .inl rfl

end Sys2Proof.Machine

open Sys2Proof Sys2Proof.Machine

/-- Settles O7: the step tests FAULT, REFUSED and COMPLETED in this order, before it asks for a move. -/
theorem haltedBlockTakesNoStep : Obligations.HaltedBlockTakesNoStep := by
  unfold Obligations.HaltedBlockTakesNoStep
  intro s
  refine ⟨fun r hf => ?_, fun hf hr => ?_, fun hc => ?_⟩
  · simp [step, stepOnce, hf]
  · simp [step, stepOnce, hf, hr]
  · obtain ⟨hf, hr⟩ := State.completed_cases hc
    simp [step, stepOnce, hf, hr, hc]

/-- Settles O45: FAULT is none before the step, so a record in it afterwards is one the step raised. -/
theorem faultsArePrecise : Obligations.FaultsArePrecise := by
  unfold Obligations.FaultsArePrecise
  intro s t r hstep hr
  obtain ⟨m, hh, -, hm⟩ := step_trans hstep
  obtain ⟨hnone, -, -⟩ := State.halted_eq_false_iff.1 hh
  obtain hf | ⟨c, code, info, hw, hcode, rfl⟩ | ⟨q, sub, rfl⟩ := (takeMove_effect hm).fault_cases
  · rw [hr, State.consumeChoice_fault, hnone] at hf
    cases hf
  · cases hr
    refine ⟨fun c' hc' => ?_, nofun⟩
    cases hc'
    exact ⟨rfl, rfl, rfl, hw, hcode⟩
  · cases hr
    exact ⟨nofun, fun _ => ⟨q.vector, q.source, sub, rfl, rfl⟩⟩

end

section
/-! The dispatch agent (60_exceptions R256, R257): the bytes of the entry read, the answer of the lookup in each case, and the
handler a delivery starts. -/

namespace Sys2Proof.Machine

/-! ### The bytes of the entry read (20_memory R62, 30_encoding R93) -/

theorem Memory.readLE_lt (m : Memory) (a n : Nat) : Memory.readLE m a n < 2 ^ (8 * n) := by
  induction n generalizing a with
  | zero => simp [Memory.readLE]
  | succ n ih =>
    have hb := (Memory.read m a).isLt
    have hr := ih (a + 1)
    rw [Memory.readLE, show 8 * (n + 1) = 8 + 8 * n by omega, Nat.pow_add]
    omega

/-- Byte k of a little-endian read. -/
theorem Memory.ofNat_readLE_div (m : Memory) (a : Nat) {n k : Nat} (hk : k < n) :
    BitVec.ofNat 8 (Memory.readLE m a n / 2 ^ (8 * k)) = Memory.read m (a + k) := by
  induction k generalizing a n with
  | zero =>
    obtain ⟨n, rfl⟩ := Nat.exists_eq_add_one_of_ne_zero (Nat.ne_zero_of_lt hk)
    apply BitVec.eq_of_toNat_eq
    simp [Memory.readLE, Nat.mod_eq_of_lt (Memory.read m a).isLt]
  | succ k ih =>
    obtain ⟨n, rfl⟩ := Nat.exists_eq_add_one_of_ne_zero (Nat.ne_zero_of_lt hk)
    have hb := (Memory.read m a).isLt
    have htail : Memory.readLE m a (n + 1) / 2 ^ 8 = Memory.readLE m (a + 1) n := by
      rw [Memory.readLE]
      omega
    rw [show 8 * (k + 1) = 8 + 8 * k by omega, Nat.pow_add, ← Nat.div_div_eq_div_mul, htail, ih (a + 1) (by omega)]
    congr 1
    omega

theorem gateByte_readEntry (m : Memory) (a : Nat) {k : Nat} (hk : k < 8) :
    gateByte (Memory.readEntry m a) k = Memory.read m (a + k) := by
  rw [← ofNat_div_eq_gateByte, Memory.readEntry, BitVec.toNat_ofNat, Nat.mod_eq_of_lt (Memory.readLE_lt m a 8),
    Memory.ofNat_readLE_div m a hk]

theorem gateAttr_readEntry (m : Memory) (a : Nat) : gateAttr (Memory.readEntry m a) = Memory.read m (a + 5) :=
  gateByte_readEntry m a (show 5 < 8 by decide)

theorem gateSel_eq_bytes (e : GateEntry) : gateSel e = gateByte e 3 ++ gateByte e 2 := by
  symm
  exact BitVec.extractLsb'_append_extractLsb'_eq_extractLsb' (by decide)

theorem gateOffset_eq_bytes (e : GateEntry) :
    gateOffset e = gateByte e 7 ++ gateByte e 6 ++ gateByte e 1 ++ gateByte e 0 := by
  have hhigh : gateByte e 7 ++ gateByte e 6 = e.extractLsb' 48 16 :=
    BitVec.extractLsb'_append_extractLsb'_eq_extractLsb' (by decide)
  have hlow : gateByte e 1 ++ gateByte e 0 = e.extractLsb' 0 16 :=
    BitVec.extractLsb'_append_extractLsb'_eq_extractLsb' (by decide)
  rw [BitVec.append_assoc, hhigh, hlow]
  rfl

/-- The delivery names the fields of an entry, which are its bytes (60_exceptions R256). -/
theorem deliverEvent_eq {r : Request} {e : GateEntry} {byte : Nat → Byte} (h : ∀ k < 8, byte k = gateByte e k) :
    deliverEvent r byte = .deliver r.vector r.source (gateOffset e) (gateSel e) (gateAttr e) := by
  have hattr : gateAttr e = gateByte e 5 := rfl
  rw [deliverEvent, gateOffset_eq_bytes, gateSel_eq_bytes, hattr, h 0 (by decide), h 1 (by decide), h 2 (by decide),
    h 3 (by decide), h 5 (by decide), h 6 (by decide), h 7 (by decide)]

/-! ### The answer of the lookup, case by case (60_exceptions R256) -/

section
variable {s : State} {r : Request}

theorem dispatch_of_unloaded (hi : s.IdtrOk) (hp : s.phase ≠ .loaded) :
    dispatch r s = .next (s.raiseDispatch .notLoaded r) := by
  obtain ⟨-, hnone, -⟩ := hi
  rw [dispatch, hnone hp]

theorem dispatch_of_nVectors_le (hc : s.params.wf = true) (hi : s.IdtrOk) (hp : s.phase = .loaded)
    (hv : s.params.nVectors ≤ r.vector) : dispatch r s = .next (s.raiseDispatch .limit r) := by
  obtain ⟨hsome, -, -⟩ := hi
  have hlim := Params.toNat_limit hc
  simp only [dispatch, hsome hp]
  rw [if_pos (by omega)]

/-- The lookup reads the entry of a vector of the table (10_state R28). -/
theorem dispatch_of_lt_nVectors (hc : s.params.wf = true) (hi : s.IdtrOk) (hp : s.phase = .loaded)
    (hv : r.vector < s.params.nVectors) :
    dispatch r s = .next (deliver r (Memory.readEntry s.mem (entryAddr s.params r.vector)) s) := by
  obtain ⟨hsome, -, -⟩ := hi
  have hlim := Params.toNat_limit hc
  simp only [dispatch, hsome hp]
  rw [if_neg (by omega)]
  exact if_pos (inTable_entry hv)

variable {e : GateEntry}

theorem deliver_of_not_present (hp : attrPresent (gateAttr e) = 0) : deliver r e s = s.raiseDispatch .notPresent r := by
  rw [deliver, if_pos hp]

theorem deliver_of_badKind (hp : attrPresent (gateAttr e) ≠ 0) (hk : attrKindValid (gateAttr e) = false) :
    deliver r e s = s.raiseDispatch .badKind r := by
  rw [deliver, if_neg hp, if_pos (by rw [hk]; rfl)]

theorem deliver_of_dplFails (hp : attrPresent (gateAttr e) ≠ 0) (hk : attrKindValid (gateAttr e) = true)
    (hd : dplFails r.source (gateAttr e) = true) : deliver r e s = s.raiseDispatch .dpl r := by
  rw [deliver, if_neg hp, if_neg (by simp [hk]), if_pos hd]

theorem deliver_of_passes (hp : attrPresent (gateAttr e) ≠ 0) (hk : attrKindValid (gateAttr e) = true)
    (hd : dplFails r.source (gateAttr e) = false) :
    deliver r e s =
      (s.record (.deliver r.vector r.source (gateOffset e) (gateSel e) (gateAttr e))).activate r.vector := by
  rw [deliver, if_neg hp, if_neg (by simp [hk]), if_neg (by simp [hd])]

end

theorem attrKindValid_iff (a : Byte) : attrKindValid a = true ↔ a.extractLsb' 0 4 ∈ [0x5#4, 0x6#4, 0x7#4, 0xE#4, 0xF#4] := by
  rw [attrKindValid, Option.isSome_iff_exists, GateKind.ofBits?_isSome_iff, attrKind]

theorem dplFails_eq_false_iff (src : Source) (a : Byte) :
    dplFails src a = false ↔ ∀ cpl, src = .software cpl → cpl.toNat ≤ (attrDpl a).toNat := by
  cases src <;> simp [dplFails]

/-- A request that passes every test is delivered with the fields its entry's bytes hold. -/
theorem Deliverable.dispatch_eq {s : State} {r : Request} {byte : Nat → Byte} (h : Deliverable s r byte) (hs : s.Inv) :
    dispatch r s = .next ((s.record (deliverEvent r byte)).activate r.vector) := by
  obtain ⟨hl, hv, hbytes, hp, hk, hc⟩ := h
  have hbyte (k : Nat) (hk : k < 8) :
      byte k = gateByte (Memory.readEntry s.mem (entryAddr s.params r.vector)) k := by
    rw [gateByte_readEntry _ _ hk]
    exact hbytes k
  have hattr : gateAttr (Memory.readEntry s.mem (entryAddr s.params r.vector)) = byte 5 := (hbyte 5 (by decide)).symm
  rw [dispatch_of_lt_nVectors hs.config hs.idtr hl hv, deliverEvent_eq hbyte, deliver_of_passes]
  case hp => rw [hattr, attrPresent, hp]; decide
  case hk => rw [hattr]; exact (attrKindValid_iff _).2 hk
  case hd => rw [hattr]; exact (dplFails_eq_false_iff _ _).2 hc

/-! ### The handler a delivery starts (60_exceptions R257) -/

section
variable {s : State}

theorem State.activate_of_unmapped {v : Nat} (h : s.params.sched = .interleaved ∨ s.params.handlerOf v = none) :
    s.activate v = s := by
  obtain ⟨-, ha⟩ | ⟨k, hn, hk, -⟩ := s.activate_cases v
  · exact ha
  · simp [hn, hk] at h

theorem State.activate_of_mapped {v h : Nat} (hn : s.params.sched = .nested) (hh : s.params.handlerOf v = some h) :
    s.activate v = if (s.ctx h).status = .idle then s.startHandler h else s.refuse := by
  simp only [State.activate, hn, hh]

/-- A write of registers that leaves their values changes nothing. -/
theorem State.updCtx_eq_self {c : Nat} {f : Ctx → Ctx} (h : f (s.ctx c) = s.ctx c) : s.updCtx c f = s := by
  have hmod : s.ctxs.modify c f = s.ctxs := by
    apply List.ext_getElem?
    intro j
    by_cases hj : c = j
    · subst hj
      cases hk : s.ctxs[c]? with
      | none => simp [hk]
      | some k =>
        have hctx : s.ctx c = k := by simp [State.ctx, hk]
        rw [hctx] at h
        simp [hk, h]
    · simp [hj]
  rw [State.updCtx, hmod]

/-- A context that holds no guard releases none (44_spinlock R227). -/
theorem State.releaseAll_eq_self {c : Nat} (h : ∀ m < s.mutexes.length, (s.mutex m).holder ≠ some c) :
    s.releaseAll c = s := by
  have hheld : s.heldBy c = [] := by
    simpa [State.heldBy, List.filter_eq_nil_iff] using h
  have hmap : (s.mutexes.map fun x => if x.holder = some c then x.released else x) = s.mutexes := by
    refine (List.map_congr_left fun x hx => ?_).trans (List.map_id _)
    obtain ⟨m, hm, rfl⟩ := List.getElem_of_mem hx
    have hne := h m hm
    rw [State.mutex, List.getD_eq_getElem _ _ hm] at hne
    exact if_neg hne
  rw [State.releaseAll, hheld, hmap, List.map_nil, List.append_nil]

/-- A started handler with a command to run does not end (10_state R23). -/
theorem State.startHandler_of_prog_ne {h : Nat} (hlt : h < s.ctxs.length) (hne : s.prog h ≠ []) :
    s.startHandler h = s.pushHandler h := by
  have hpc : ((s.pushHandler h).ctx h).pc ≠ ((s.pushHandler h).prog h).length := by
    rw [State.ctx_pushHandler_self hlt]
    exact (List.length_pos_iff.2 hne).ne
  rw [State.startHandler_eq, State.endIfFinished_eq_self hpc]

/-- A handler with an empty list ends as it starts, and leaves the state as it was (60_exceptions R257). -/
theorem State.Inv.startHandler_of_prog_eq_nil {h : Nat} (hs : s.Inv) (hlt : h < s.params.nCtx)
    (hidle : (s.ctx h).status = .idle) (hnil : s.prog h = []) : s.startHandler h = s := by
  have hlen : h < s.ctxs.length := hs.shape.1 ▸ hlt
  obtain ⟨-, -, hstands, -, -⟩ := hs.contexts h hlt
  obtain ⟨hpc, hn, h0⟩ := hstands hidle
  have hend : ((s.pushHandler h).ctx h).pc = ((s.pushHandler h).prog h).length := by
    rw [State.ctx_pushHandler_self hlen]
    exact (congrArg List.length hnil).symm
  have hfree : ∀ m < (s.pushHandler h).mutexes.length, ((s.pushHandler h).mutex m).holder ≠ some h := by
    intro m hm hheld
    obtain ⟨-, hrun⟩ := hs.guards m (hs.shape.2 ▸ hm)
    cases hidle.symm.trans (hrun h hheld).2
  have hsched : (s.pushHandler h).params.sched = .nested := hn
  have hpop : (s.pushHandler h).setActive (s.pushHandler h).active.dropLast =
      s.updCtx h fun k => { k with status := .running, pc := 0 } := by
    rw [State.pushHandler_active, List.dropLast_concat]
    rfl
  rw [State.startHandler_eq, State.endIfFinished_eq_endContext hend, State.endContext, State.releaseAll_eq_self hfree]
  simp only [hsched, h0, if_false, hpop, State.updCtx_updCtx]
  exact State.updCtx_eq_self (by rw [← hidle, ← hpc])

end

/-! ### The lookup and the bytes outside the entry (20_memory R61) -/

/-- s with the memory replaced. -/
def State.withMem (s : State) (mem : Memory) : State := { s with mem := mem }

section
variable (s : State) (mem : Memory)

theorem State.endContext_withMem (c : Nat) : (s.withMem mem).endContext c = (s.endContext c).withMem mem := by
  have hp : (s.withMem mem).params.sched = s.params.sched := rfl
  simp only [State.endContext, State.releaseAll_params, hp]
  cases s.params.sched with
  | interleaved => rfl
  | nested =>
    by_cases hc : c = 0
    · simp only [hc, if_true]; rfl
    · simp only [hc, if_false]; rfl

theorem State.endIfFinished_withMem (c : Nat) : (s.withMem mem).endIfFinished c = (s.endIfFinished c).withMem mem := by
  by_cases hc : (s.ctx c).pc = (s.prog c).length
  · rw [State.endIfFinished_eq_endContext hc, ← State.endContext_withMem]
    exact State.endIfFinished_eq_endContext hc
  · rw [State.endIfFinished_eq_self hc]
    exact State.endIfFinished_eq_self hc

/-- Activation neither reads nor writes memory. -/
theorem State.activate_withMem (v : Nat) : (s.withMem mem).activate v = (s.activate v).withMem mem := by
  obtain ⟨hq, ha⟩ | ⟨h, hn, hh, ⟨hi, ha⟩ | ⟨hi, ha⟩⟩ := s.activate_cases v
  · rw [ha]
    exact State.activate_of_unmapped hq
  · have ha' : (s.withMem mem).activate v = (s.withMem mem).startHandler h :=
      (State.activate_of_mapped (s := s.withMem mem) hn hh).trans (if_pos hi)
    rw [ha, ha', State.startHandler_eq, State.startHandler_eq, ← State.endIfFinished_withMem]
    rfl
  · rw [ha]
    exact (State.activate_of_mapped (s := s.withMem mem) hn hh).trans (if_neg hi)

/-- Once the entry is read, the rest of the dispatch neither reads nor writes memory. -/
theorem deliver_withMem (r : Request) (e : GateEntry) : deliver r e (s.withMem mem) = (deliver r e s).withMem mem := by
  unfold deliver
  split
  · rfl
  · split
    · rfl
    · split
      · rfl
      · exact State.activate_withMem (s.record _) mem r.vector

end

section
variable {s : State}

theorem State.Inv.exists_dispatch_eq_next (hs : s.Inv) (r : Request) : ∃ t, dispatch r s = .next t := by
  by_cases hp : s.phase = .loaded
  · obtain hv | hv := Nat.lt_or_ge r.vector s.params.nVectors
    · exact ⟨_, dispatch_of_lt_nVectors hs.config hs.idtr hp hv⟩
    · exact ⟨_, dispatch_of_nVectors_le hs.config hs.idtr hp hv⟩
  · exact ⟨_, dispatch_of_unloaded hs.idtr hp⟩

/-- The lookup reads no byte outside TR: it answers the same whatever they hold, and it writes none. -/
theorem State.Inv.dispatch_withMem (hs : s.Inv) (r : Request) {mem : Memory}
    (hmem : ∀ a, s.params.tbase.toNat ≤ a → a < s.params.tbase.toNat + 8 * s.params.nVectors →
      Memory.read mem a = Memory.read s.mem a) :
    dispatch r (s.withMem mem) = onNext (dispatch r s) fun t => t.withMem mem := by
  have hc : (s.withMem mem).params.wf = true := hs.config
  have hi : (s.withMem mem).IdtrOk := hs.idtr
  by_cases hp : s.phase = .loaded
  · obtain hv | hv := Nat.lt_or_ge r.vector s.params.nVectors
    · have hread : Memory.readEntry mem (entryAddr s.params r.vector) =
          Memory.readEntry s.mem (entryAddr s.params r.vector) := by
        rw [Memory.readEntry, Memory.readEntry, Memory.readLE_congr fun a hle hlt => hmem a ?_ ?_]
        · rw [entryAddr] at hle
          omega
        · rw [entryAddr] at hlt
          omega
      rw [dispatch_of_lt_nVectors hs.config hs.idtr hp hv, onNext, ← deliver_withMem, ← hread]
      exact dispatch_of_lt_nVectors hc hi hp hv
    · rw [dispatch_of_nVectors_le hs.config hs.idtr hp hv]
      exact dispatch_of_nVectors_le hc hi hp hv
  · rw [dispatch_of_unloaded hs.idtr hp]
    exact dispatch_of_unloaded hi hp

/-- TR ends within the address space (00_scope R7, 20_memory R64). -/
theorem Params.table_le {p : Params} (h : p.wf = true) : p.tbase.toNat + 8 * p.nVectors ≤ 2 ^ 32 := by
  simp only [Params.wf, Params.tableOk, Bool.and_eq_true, decide_eq_true_eq] at h
  obtain ⟨⟨⟨⟨⟨-, htable⟩, -⟩, -⟩, -⟩, -⟩ := h
  exact htable

/-- The address behind the limit test is that of an entry (43_idt R192). -/
theorem State.Inv.lookup_inside (hs : s.Inv) {i : Idtr} (hi : s.idtr = some i) {v : Nat} (hv : 8 * v + 7 ≤ i.limit.toNat) :
    i.base = s.params.tbase ∧ v < s.params.nVectors := by
  obtain ⟨hsome, hnone, -⟩ := hs.idtr
  have hp : s.phase = .loaded := by
    by_contra hp
    cases hi.symm.trans (hnone hp)
  cases hi.symm.trans (hsome hp)
  have hlim := Params.toNat_limit hs.config
  simp only at hv
  exact ⟨rfl, by omega⟩

end

end Sys2Proof.Machine

open Sys2Proof Sys2Proof.Machine

/-- Settles O40: the request passes every test, and the activation that follows starts nothing. -/
theorem dispatchDelivers : Obligations.DispatchDelivers := by
  unfold Obligations.DispatchDelivers
  intro s r hs hq byte hd
  have hq' : (s.record (deliverEvent r byte)).activate r.vector = s.record (deliverEvent r byte) :=
    State.activate_of_unmapped hq
  rw [takeMove, hd.dispatch_eq hs, hq']
  rfl

/-- Settles O41: each failure is that of the first test the request does not pass. -/
theorem dispatchFailures : Obligations.DispatchFailures := by
  unfold Obligations.DispatchFailures
  intro s r hs
  refine ⟨fun hp => dispatch_of_unloaded hs.idtr hp, fun hp hv => dispatch_of_nVectors_le hs.config hs.idtr hp hv,
    fun hp hv a ha => ?_⟩
  have hread := dispatch_of_lt_nVectors hs.config hs.idtr hp hv
  have hattr : gateAttr (Memory.readEntry s.mem (entryAddr s.params r.vector)) = a := by
    rw [gateAttr_readEntry, ha, entryAddr]
  rw [← attrKindValid_iff, Bool.not_eq_true]
  rw [← attrPresent, ← hattr]
  refine ⟨fun h => ?_, fun h hk => ?_, fun h hk cpl hsrc hd => ?_⟩
  · exact hread.trans (congrArg _ (deliver_of_not_present h))
  · exact hread.trans (congrArg _ (deliver_of_badKind (by simp [h]) hk))
  · refine hread.trans (congrArg _ (deliver_of_dplFails (by simp [h]) hk ?_))
    rw [hsrc]
    exact decide_eq_true hd

/-- Settles O42: the lookup reads only the entry of a vector below N_VECTORS, whose eight bytes lie in TR. -/
theorem dispatchReadsInsideTheTable : Obligations.DispatchReadsInsideTheTable := by
  unfold Obligations.DispatchReadsInsideTheTable
  intro s r hs
  refine ⟨hs.exists_dispatch_eq_next r, fun mem hmem => hs.dispatch_withMem r hmem, fun i hi hv => ?_⟩
  obtain ⟨hbase, hlt⟩ := hs.lookup_inside hi hv
  have htable := Params.table_le hs.config
  rw [hbase]
  omega

/-- Settles O43: the request is delivered first, and then its handler is started, ended at once, or refused. -/
theorem deliveryStartsTheHandler : Obligations.DeliveryStartsTheHandler := by
  unfold Obligations.DeliveryStartsTheHandler
  intro s r h hs hn hh byte hd
  have hlt : h < s.params.nCtx := Params.handlerOf_lt hs.config hh
  have hlen : h < s.ctxs.length := hs.shape.1 ▸ hlt
  have hrec : (s.record (deliverEvent r byte)).Inv := hs.congr rfl
  have hact : takeMove (.request r) s =
      .next (if (s.ctx h).status = .idle then (s.record (deliverEvent r byte)).startHandler h
        else (s.record (deliverEvent r byte)).refuse) :=
    (hd.dispatch_eq hs).trans (congrArg _ (State.activate_of_mapped hn hh))
  rw [hact]
  refine ⟨fun hi hne => ?_, fun hi hnil => ?_, fun hi => ?_⟩
  · have hstart := State.startHandler_of_prog_ne (s := s.record (deliverEvent r byte)) hlen hne
    refine ⟨(s.record (deliverEvent r byte)).pushHandler h, ?_, rfl, rfl, State.ctx_pushHandler_self hlen, ?_, fun _ => rfl,
      ⟨rfl, fun _ => rfl⟩, by constructor <;> rfl⟩
    · rw [if_pos hi, hstart]
    · exact ⟨State.ctxs_length_updCtx _ _ _, fun c hc => State.ctx_pushHandler_ne _ hc⟩
  · rw [if_pos hi, hrec.startHandler_of_prog_eq_nil hlt hi hnil]
    rfl
  · rw [if_neg hi]
    rfl

end

section
/-! Progress (70_reset R283, R284): which moves are possible, that a context may step until the run has an outcome, and that
under the invariant a possible move always gives a next state, since no access leaves TR (20_memory R61). -/

namespace Sys2Proof.Machine

/-! ### The possible moves (70_reset R283; 60_exceptions R255, R259) -/

theorem State.eligible_iff_of_nested {s : State} (hn : s.params.sched = .nested) (c : Nat) :
    s.eligible c = true ↔ s.active.getLast? = some c ∧ (s.ctx c).status = .running := by
  simp [State.eligible, hn]

/-- An eligible context is one of the block's, or stands on ACTIVE, so the list of moves names it. -/
theorem State.mem_of_eligible {s : State} {c : Nat} (h : s.eligible c = true) :
    c ∈ List.range s.ctxs.length ++ s.active := by
  cases hs : s.params.sched with
  | interleaved => exact List.mem_append_left _ (List.mem_range.2 ((State.eligible_iff_of_interleaved hs c).1 h).1)
  | nested => exact List.mem_append_right _ (List.mem_of_getLast? ((State.eligible_iff_of_nested hs c).1 h).1)

theorem mayRequest_iff {p : Params} {r : Request} :
    mayRequest p r = true ↔ r.vector < 2 ^ p.vecBits ∧ ∀ rs, p.req = .only rs → r ∈ rs := by
  cases hreq : p.req <;> simp [mayRequest, hreq]

theorem State.mayRaise_iff {s : State} {r : Request} :
    s.mayRaise r = true ↔ mayRequest s.params r = true ∧ (r.source = .external → s.ie = true) := by
  simp [State.mayRaise, Decidable.imp_iff_not_or]

/-- The list of sources is complete: a level of R261 has two bits. -/
theorem Source.mem_every (src : Source) : src ∈ Source.every := by
  cases src with
  | external => decide
  | exception => decide
  | software cpl => revert cpl; decide

/-- The list of requests holds every request that may be raised. -/
theorem mem_requestsOf {p : Params} {r : Request} (h : mayRequest p r = true) : r ∈ requestsOf p := by
  obtain ⟨hv, hreq⟩ := mayRequest_iff.1 h
  cases hp : p.req with
  | all =>
    simp only [requestsOf, hp, List.mem_flatMap, List.mem_range, List.mem_map]
    exact ⟨r.vector, hv, r.source, Source.mem_every r.source, rfl⟩
  | only rs =>
    simp only [requestsOf, hp, List.mem_filter, decide_eq_true_eq]
    exact ⟨hreq rs hp, hv⟩

/-- The list of possible moves leaves none out. -/
theorem State.mem_possibleMoves_of_possible {s : State} {m : Move} (h : s.possible m = true) : m ∈ s.possibleMoves := by
  refine List.mem_filter.2 ⟨?_, h⟩
  cases m with
  | ctx c => exact List.mem_append_left _ (List.mem_append_left _ (List.mem_map_of_mem (State.mem_of_eligible h)))
  | request r =>
    exact List.mem_append_left _ (List.mem_append_right _
      (List.mem_map_of_mem (mem_requestsOf (State.mayRaise_iff.1 h).1)))
  | setIE b => exact List.mem_append_right _ (by cases b <;> simp)

/-- The schedule has a choice as soon as one step is possible. -/
theorem State.exists_nextMove {s : State} {m : Move} (h : s.possible m = true) : ∃ m', s.nextMove = some m' := by
  have hfree := State.freeMove_isSome (State.mem_possibleMoves_of_possible h)
  unfold State.nextMove
  split
  · split
    · exact ⟨_, rfl⟩
    · exact hfree
  · exact hfree

/-! ### A context may step until the run has an outcome -/

/-- Under INTERLEAVED a run that goes on has a context that is not DONE; it is RUNNING, since none is IDLE (10_state R23). -/
theorem State.Inv.exists_eligible_of_interleaved {s : State} (h : s.Inv) (hi : s.params.sched = .interleaved)
    (hh : s.halted = false) : ∃ c, s.eligible c = true := by
  obtain ⟨hf, hr, hc⟩ := State.halted_eq_false_iff.1 hh
  obtain ⟨k, hk, hnd⟩ : ∃ k ∈ s.ctxs, k.status ≠ .done := by
    simpa [State.completed, hf, hr, hi] using hc
  obtain ⟨c, hlt, rfl⟩ := List.getElem_of_mem hk
  have hctx : s.ctx c = s.ctxs[c] := List.getD_eq_getElem _ _ hlt
  rw [← hctx] at hnd
  refine ⟨c, (State.eligible_iff_of_interleaved hi c).2 ⟨hlt, ?_⟩⟩
  obtain ⟨-, -, hidle, -, -⟩ := h.contexts c (h.shape.1 ▸ hlt)
  cases hst : (s.ctx c).status with
  | running => rfl
  | idle => cases hi.symm.trans (hidle hst).2.1
  | done => exact absurd hst hnd

/-- Under NESTED a run that goes on has a context on top of ACTIVE, and it is RUNNING (10_state R38). -/
theorem State.Inv.exists_eligible_of_nested {s : State} (h : s.Inv) (hn : s.params.sched = .nested)
    (hh : s.halted = false) : ∃ c, s.eligible c = true := by
  have htop := List.getLast?_eq_some_getLast (h.active_ne_nil hn hh)
  have hmem := List.mem_of_getLast? htop
  obtain ⟨-, hlt, hrun, -⟩ := h.active.2 hn
  exact ⟨_, (State.eligible_iff_of_nested hn _).2 ⟨htop, (hrun _ (hlt _ hmem)).1 hmem⟩⟩

theorem State.Inv.exists_eligible {s : State} (h : s.Inv) (hh : s.halted = false) : ∃ c, s.eligible c = true := by
  cases hs : s.params.sched with
  | interleaved => exact h.exists_eligible_of_interleaved hs hh
  | nested => exact h.exists_eligible_of_nested hs hh

/-! ### Every command answers a next state -/

/-- The answer is a next state: the machine does not stop. -/
def IsNext (r : Result) : Prop := ∃ t, r = .next t

theorem isNext_next (t : State) : IsNext (.next t) := ⟨t, rfl⟩

theorem IsNext.onNext {r : Result} (h : IsNext r) (f : State → State) : IsNext (onNext r f) := by
  obtain ⟨t, rfl⟩ := h
  exact isNext_next (f t)

section
variable {s : State}

/-- A raised fault is a next state (60_exceptions R251, log 6). -/
theorem isNext_raising (code : FaultCode) (info : BitVec 32) : IsNext (raising s code info) := isNext_next _

theorem IsNext.needSel {k : Selector → Result} (h : ∀ x, IsNext (k x)) : IsNext (needSel s k) := by
  unfold Machine.needSel
  split
  · exact h _
  · exact isNext_raising _ _

theorem IsNext.needGe {k : GateEntry → Result} (h : ∀ e, IsNext (k e)) : IsNext (needGe s k) := by
  unfold Machine.needGe
  split
  · exact h _
  · exact isNext_raising _ _

theorem IsNext.needRes {k : Payload → Result} (h : ∀ x, IsNext (k x)) : IsNext (needRes s k) := by
  unfold Machine.needRes
  split
  · exact h _
  · exact isNext_raising _ _

theorem IsNext.needUnlocked {k : Result} (info : BitVec 32) (h : IsNext k) : IsNext (needUnlocked s info k) := by
  unfold Machine.needUnlocked
  split
  · exact isNext_raising _ _
  · exact h

theorem IsNext.needGuard {k : Result} (m : BitVec 8) (h : IsNext k) : IsNext (needGuard s m k) := by
  unfold Machine.needGuard
  split
  · exact h
  · exact isNext_raising _ _

/-- `attr_read` makes no access outside TR: a handle names an entry of the table (41_attribute R150, 20_memory R61). -/
theorem IsNext.attrRead (hh : s.HandleOk s.cur) (tg : Target) (set : Bool) {k : Byte → Result} (h : ∀ a, IsNext (k a)) :
    IsNext (attrRead s tg set k) := by
  cases tg with
  | ge => exact IsNext.needGe fun e => h _
  | tbl =>
    by_cases hp : set = true → s.phase ≠ .loaded
    · cases hv : s.me.handle with
      | none =>
        rw [attrRead_tbl_of_none set k hp hv]
        exact isNext_raising _ _
      | some v =>
        have hlt : v < s.params.nVectors := (hh v hv).1
        have hholds : AttrHolds s .tbl (Memory.read s.mem (attrAddr s.params v)) := ⟨v, hv, hlt, rfl⟩
        rw [attrRead_of_attrHolds set k hholds fun hset _ => hp hset]
        exact h _
    · obtain ⟨rfl, hl⟩ : set = true ∧ s.phase = .loaded := by simpa using hp
      rw [attrRead_tbl_of_loaded k hl]
      exact isNext_raising _ _

theorem isNext_setAttrField (hh : s.HandleOk s.cur) (tg : Target) (f : Byte → Byte) : IsNext (setAttrField tg f s) :=
  IsNext.attrRead hh tg true fun _ => isNext_next _

theorem isNext_getAttrField (hh : s.HandleOk s.cur) (tg : Target) (f : Byte → Payload) : IsNext (getAttrField tg f s) :=
  IsNext.attrRead hh tg false fun _ => isNext_next _

theorem isNext_execMutexLock (m : BitVec 8) : IsNext (execMutexLock m s) := by
  unfold execMutexLock
  split <;> exact isNext_next _

/-- A command of a context whose handle names an entry completes or raises a fault of the block; it does not stop. -/
theorem isNext_exec (hh : s.HandleOk s.cur) (i : Instr) : IsNext (exec i s) := by
  cases i with
  | selNew | gateMissing => exact isNext_next _
  | selSetRpl | selSetTi | selSetIndex | selGetRpl | selGetTi | selGetIndex | gateNew =>
    exact IsNext.needSel fun _ => isNext_next _
  | gateGetOffset | gateGetSel | gateGetAttr => exact IsNext.needGe fun _ => isNext_next _
  | attrSetPresent tg p => exact isNext_setAttrField hh tg fun a => attrWithPresent a p
  | attrSetGateKind tg kind => exact isNext_setAttrField hh tg fun a => attrWithKind a kind
  | attrSetDpl tg dpl => exact isNext_setAttrField hh tg fun a => attrWithDpl a dpl
  | attrGetPresent tg => exact isNext_getAttrField hh tg fun a => (attrPresent a).setWidth 32
  | attrGetGateKind tg => exact isNext_getAttrField hh tg fun a => (attrKind a).setWidth 32
  | attrGetDpl tg => exact isNext_getAttrField hh tg fun a => (attrDpl a).setWidth 32
  | idtNew => exact IsNext.needUnlocked _ (isNext_next _)
  | idtSetHandler v addr =>
    refine IsNext.needUnlocked _ ?_
    split
    · exact isNext_next _
    · exact isNext_raising _ _
  | idtLoad =>
    rw [exec, execIdtLoad]
    split
    · exact IsNext.needUnlocked _ (isNext_next _)
    · exact isNext_raising _ _
  | mutexNew m d =>
    rw [exec, execMutexNew]
    split
    · exact isNext_raising _ _
    · exact isNext_next _
  | mutexLock m => exact isNext_execMutexLock m
  | mutexUnlock m | mutexRead m | mutexWrite m => exact IsNext.needGuard m (isNext_next _)
  | mutexWriteadd m => exact IsNext.needRes fun _ => IsNext.needGuard m (isNext_next _)

/-! ### Every possible move gives a next state -/

/-- A RUNNING context has a word to fetch (10_state R22), and its command does not stop. -/
theorem State.Inv.isNext_runContext (h : s.Inv) {c : Nat} (he : s.eligible c = true) : IsNext (runContext c s) := by
  obtain ⟨hc, hrun, -⟩ := h.eligible_cases he
  obtain ⟨-, hpc, -, -, hh⟩ := h.contexts c hc
  obtain ⟨w, hw⟩ : ∃ w, s.fetch c = some w := ⟨_, List.getElem?_eq_getElem (hpc hrun)⟩
  have hfocus : (s.focus c).HandleOk (s.focus c).cur := hh
  cases hi : decode s.params.nMutex w with
  | error x =>
    simp only [runContext, hw, hi]
    exact isNext_raising _ _
  | ok i =>
    rw [runContext_of_decode hw hi]
    exact (isNext_exec hfocus i).onNext _

theorem State.Inv.isNext_takeMove (h : s.Inv) {m : Move} (hp : s.possible m = true) : IsNext (takeMove m s) := by
  cases m with
  | ctx c => exact h.isNext_runContext hp
  | request r => exact h.exists_dispatch_eq_next r
  | setIE b => exact isNext_next _

end

theorem State.Inv.exists_step {s : State} (h : s.Inv) (hh : s.halted = false) : ∃ t, step s = .next t := by
  obtain ⟨c, hc⟩ := h.exists_eligible hh
  obtain ⟨m, hm⟩ := State.exists_nextMove (s := s) (m := .ctx c) hc
  have hcons : s.consumeChoice.Inv := h.congr rfl
  have hposs : s.possible m = true := State.possible_of_nextMove hm
  rw [step_eq_takeMove hh hm]
  exact hcons.isNext_takeMove hposs

/-! ### The outcome of a run (70_reset R284) -/

/-- A state is of one of four kinds: with one of the three outcomes, or not halted. -/
theorem State.outcome_cases (s : State) :
    (s.outcome = some .refused ∧ s.refused = true) ∨
    (s.outcome = some .faulted ∧ s.refused = false ∧ s.fault ≠ none) ∨
    (s.outcome = some .completed ∧ s.refused = false ∧ s.fault = none ∧ s.completed = true) ∨
    (s.outcome = none ∧ s.refused = false ∧ s.fault = none ∧ s.completed = false) := by
  by_cases hr : s.refused = true
  · exact .inl ⟨by simp [State.outcome, hr], hr⟩
  by_cases hf : s.fault = none
  · by_cases hc : s.completed = true
    · exact .inr (.inr (.inl ⟨by simp [State.outcome, hr, hf, hc], by simpa using hr, hf, hc⟩))
    · exact .inr (.inr (.inr ⟨by simp [State.outcome, hr, hf, hc], by simpa using hr, hf, by simpa using hc⟩))
  · exact .inr (.inl ⟨by simp [State.outcome, hr, Option.isSome_iff_ne_none, hf], by simpa using hr, hf⟩)

section
variable {s : State}

theorem State.outcome_eq_none_iff : s.outcome = none ↔ s.halted = false := by
  rw [State.halted_eq_false_iff]
  obtain h | h | h | h := s.outcome_cases <;> simp [h]

theorem State.outcome_eq_refused_iff : s.outcome = some .refused ↔ s.refused = true := by
  obtain h | h | h | h := s.outcome_cases <;> simp [h]

theorem State.outcome_eq_faulted_iff : s.outcome = some .faulted ↔ s.refused = false ∧ s.fault ≠ none := by
  obtain h | h | h | h := s.outcome_cases <;> simp [h]

/-- COMPLETED asks for FAULT = none and REFUSED = 0, so it excludes the other outcomes. -/
theorem State.outcome_eq_completed_iff : s.outcome = some .completed ↔ s.completed = true := by
  constructor
  · intro h
    obtain ⟨ho, -⟩ | ⟨ho, -⟩ | ⟨-, -, -, hc⟩ | ⟨ho, -⟩ := s.outcome_cases
    · cases h.symm.trans ho
    · cases h.symm.trans ho
    · exact hc
    · cases h.symm.trans ho
  · intro hc
    obtain ⟨hf, hr⟩ := State.completed_cases hc
    simp [State.outcome, hr, hf, hc]

/-- The host reads nothing while the run goes on, and nothing of a REFUSED run (10_state R42). -/
theorem State.observe_eq_none_iff : s.observe = none ↔ s.outcome = none ∨ s.outcome = some .refused := by
  cases ho : s.outcome with
  | none => simp [State.observe, ho]
  | some o => cases o <;> simp [State.observe, ho]

end

end Sys2Proof.Machine

open Sys2Proof Sys2Proof.Machine

/-- Settles O51: a context is eligible, so the schedule has a choice, and under the invariant every possible move gives a next
state. -/
theorem unhaltedBlockSteps : Obligations.UnhaltedBlockSteps := by
  unfold Obligations.UnhaltedBlockSteps
  intro s h hh
  exact h.exists_step hh

/-- Settles O8: the schedule chooses a possible move, and the head of the plan if that is one. -/
theorem stepsAreThePossibleOnes : Obligations.StepsAreThePossibleOnes := by
  unfold Obligations.StepsAreThePossibleOnes
  refine ⟨fun s t h => step_trans h, fun s m rest hh hp => ?_⟩
  have hhalt : ({ s with plan := m :: rest } : State).halted = false := hh
  have hnext : ({ s with plan := m :: rest } : State).nextMove = some m := if_pos hp
  exact step_eq_takeMove hhalt hnext

/-- Settles O9: a state has at most one outcome by `State.outcome_cases`, and a halted one is the source of no step. -/
theorem runsEndInOneOutcome : Obligations.RunsEndInOneOutcome := by
  unfold Obligations.RunsEndInOneOutcome
  intro s
  refine ⟨State.outcome_eq_none_iff, fun ho m t ht => ?_, fun h ho => ?_, State.outcome_eq_refused_iff,
    State.outcome_eq_faulted_iff, State.outcome_eq_completed_iff, ?_⟩
  · obtain ⟨hh, -⟩ := ht
    exact ho (State.outcome_eq_none_iff.2 hh)
  · obtain ⟨t, ht⟩ := h.exists_step (State.outcome_eq_none_iff.1 ho)
    obtain ⟨m, hm⟩ := step_trans ht
    exact ⟨m, t, hm⟩
  · rw [← State.outcome_eq_refused_iff]
    exact State.observe_eq_none_iff

/-- Settles O10, by the tests of `State.possible` for each agent. -/
theorem possibleStepsOfEachAgent : Obligations.PossibleStepsOfEachAgent := by
  unfold Obligations.PossibleStepsOfEachAgent
  intro s
  refine ⟨fun c hi => State.eligible_iff_of_interleaved hi c, fun c hn => ?_, fun r => ?_, fun b => decide_eq_true_iff,
    fun b => rfl⟩
  · rw [← List.getLast?_eq_some_iff]
    exact State.eligible_iff_of_nested hn c
  · rw [← and_assoc, ← mayRequest_iff]
    exact State.mayRaise_iff

end

section
/-! The state after reset (70_reset R280), and that it meets the invariant of the block. -/

namespace Sys2Proof.Machine

/-- STATUS[c] at reset: under INTERLEAVED every context starts, under NESTED context 0 alone (10_state R23). -/
theorem Status.atReset_eq (p : Params) (c : Nat) :
    Status.atReset p c =
      if p.sched = .interleaved ∨ c = 0 then (if p.prog c = [] then .done else .running) else .idle := by
  cases hs : p.sched with
  | interleaved => simp [Status.atReset, hs]
  | nested =>
    by_cases hc : c = 0
    · simp [Status.atReset, hs, hc]
    · simp [Status.atReset, hs, hc]

theorem Status.atReset_eq_running_iff {p : Params} {c : Nat} :
    Status.atReset p c = .running ↔ (p.sched = .interleaved ∨ c = 0) ∧ p.prog c ≠ [] := by
  rw [Status.atReset_eq]
  split_ifs <;> simp [*]

theorem Status.atReset_eq_idle_iff {p : Params} {c : Nat} :
    Status.atReset p c = .idle ↔ p.sched = .nested ∧ c ≠ 0 := by
  cases hs : p.sched with
  | interleaved => simp only [Status.atReset, hs]; split_ifs <;> simp
  | nested => simp only [Status.atReset, hs]; split_ifs <;> simp [*]

theorem Status.atReset_eq_done_iff {p : Params} {c : Nat} :
    Status.atReset p c = .done ↔ (p.sched = .interleaved ∨ c = 0) ∧ p.prog c = [] := by
  rw [Status.atReset_eq]
  split_ifs <;> simp [*]

theorem State.ctx_resetOf_of_lt {p : Params} {c : Nat} (hc : c < p.nCtx) : (State.resetOf p).ctx c = Ctx.atReset p c := by
  simp [State.ctx, State.resetOf, hc]

/-- TR holds 0x00 at reset (10_state R28). -/
theorem Memory.read_resetOf (p : Params) (a : Nat) : Memory.read (State.resetOf p).mem a = 0x00 := rfl

/-- At reset PC[c] is 0 and HANDLE[c] is ⊥; STATUS[c] is that of a context at command 0 of its list. -/
theorem State.contextOk_resetOf {p : Params} {c : Nat} (hc : c < p.nCtx) : (State.resetOf p).ContextOk c := by
  rw [State.ContextOk, State.ctx_resetOf_of_lt hc]
  refine ⟨Nat.zero_le _, fun hrun => ?_, fun hidle => ?_, fun hdone => ?_, nofun⟩
  · exact List.length_pos_iff.2 (Status.atReset_eq_running_iff.1 hrun).2
  · exact ⟨rfl, Status.atReset_eq_idle_iff.1 hidle⟩
  · obtain ⟨hstart, hnil⟩ := Status.atReset_eq_done_iff.1 hdone
    refine ⟨(congrArg List.length hnil).symm, fun hn => hstart.resolve_left fun hi => ?_⟩
    cases hn.symm.trans hi

/-- Every mutex is free at reset (10_state R32). -/
theorem State.guardOk_resetOf (p : Params) (m : Nat) : (State.resetOf p).GuardOk m := by
  obtain ⟨hf, hh⟩ := State.mutex_resetOf_free p m
  simp [State.GuardOk, hf, hh]

/-- Under NESTED, ACTIVE at reset is [0], or empty if context 0 has nothing to run (10_state R38). -/
theorem activeAtReset_of_nested {p : Params} (hn : p.sched = .nested) :
    activeAtReset p = if p.prog 0 = [] then [] else [0] := by
  simp [activeAtReset, hn]

/-- Under NESTED, ACTIVE at reset holds the RUNNING contexts (10_state R38). -/
theorem mem_activeAtReset_iff {p : Params} (hn : p.sched = .nested) {c : Nat} :
    c ∈ activeAtReset p ↔ Status.atReset p c = .running := by
  rw [activeAtReset_of_nested hn, Status.atReset_eq_running_iff]
  by_cases hc : c = 0
  · subst hc
    split_ifs <;> simp [*]
  · split_ifs <;> simp [hn, hc]

theorem State.activeOk_resetOf {p : Params} (h0 : 0 < p.nCtx) : (State.resetOf p).ActiveOk := by
  refine ⟨fun hi => ?_, fun hn => ?_⟩
  · have hi' : p.sched = .interleaved := hi
    simp [State.resetOf, activeAtReset, hi']
  · have hact : (State.resetOf p).active = if p.prog 0 = [] then [] else [0] := activeAtReset_of_nested hn
    have hmem : ∀ c < p.nCtx, (c ∈ (State.resetOf p).active ↔ ((State.resetOf p).ctx c).status = .running) := by
      intro c hc
      rw [State.ctx_resetOf_of_lt hc]
      exact mem_activeAtReset_iff hn
    refine ⟨?nodup, ?inRange, hmem, ?bottom⟩
    case nodup => rw [hact]; split_ifs <;> simp
    case inRange =>
      intro c hc
      rw [hact] at hc
      split_ifs at hc
      · cases hc
      · exact List.mem_singleton.1 hc ▸ h0
    case bottom => rw [hact]; split_ifs <;> simp

theorem Params.nCtx_pos {p : Params} (hp : p.wf = true) : 0 < p.nCtx := by
  simp only [Params.wf, Params.contextsOk, Bool.and_eq_true, decide_eq_true_eq] at hp
  omega

/-- The launch of a well-formed configuration gives the block its invariant. -/
theorem State.inv_resetOf {p : Params} (hp : p.wf = true) : (State.resetOf p).Inv where
  config := hp
  shape := by simp [State.ShapeOk, State.resetOf, Params.nMutex]
  memory := State.memoryOk_of_nil rfl
  contexts _ hc := State.contextOk_resetOf hc
  guards m _ := State.guardOk_resetOf p m
  idtr := (State.idtrOk_iff_of_unloaded (by simp [State.resetOf])).2 ⟨rfl, rfl⟩
  active := State.activeOk_resetOf (Params.nCtx_pos hp)
  entries := by
    refine ⟨fun _ => rfl, fun v _ => ⟨Memory.read_resetOf p _, by rw [Memory.read_resetOf]; decide⟩, fun c hc => ?_⟩
    rw [State.ctx_resetOf_of_lt (p := p) hc]
    exact nofun

end Sys2Proof.Machine

open Sys2Proof Sys2Proof.Machine

/-- Settles O11, field by field. -/
theorem resetGivesTheSpecValues : Obligations.ResetGivesTheSpecValues := by
  unfold Obligations.ResetGivesTheSpecValues
  intro p
  refine ⟨fun c hc => ?_, fun c => rfl, fun a _ _ => Memory.read_resetOf p a, rfl, rfl, rfl, fun m _ x hx => ?_, rfl, rfl, rfl, fun hn => ?_, rfl⟩
  · rw [State.ctx_resetOf_of_lt hc, ← Status.atReset_eq]
    rfl
  · rw [State.mutex_resetOf, hx]
    rfl
  · exact activeAtReset_of_nested hn

/-- Settles O49: the launch accepts well-formed configurations only, and that of `State.reset` is one. -/
theorem launchEstablishesInvariant : Obligations.LaunchEstablishesInvariant := by
  unfold Obligations.LaunchEstablishesInvariant
  refine ⟨fun p s h => ?_, State.inv_resetOf (by decide)⟩
  unfold State.launch at h
  split at h
  · cases h
    exact State.inv_resetOf ‹_›
  · cases h

end
